-- ==== Sys2Proof/Word.lean ====
section
/-! DEFINITION. The two word widths of the 68HC11 (00_scope.md R6): a byte and a 16-bit word, which is also
an address (20_memory.md R70). Helpers that a repair may mend stand in Machine/Bits.lean. -/

namespace Sys2Proof

/-- 8 bits: an accumulator, the CCR, a memory byte (00_scope.md R6). -/
abbrev Byte := BitVec 8

/-- 16 bits: X, Y, SP, PC, D and every address (00_scope.md R6). -/
abbrev Word := BitVec 16

end Sys2Proof
end

