-- ==== Sys2Proof/Machine/Bits.lean ====
section
/-! DEFINITION. Bit fields, byte order and extension (00_scope.md R9, R10). -/

namespace Sys2Proof.Machine

/-- `hi(v) = v[15:8]` (00_scope.md R10). -/
def hi (v : Word) : Byte := v.extractLsb' 8 8

/-- `lo(v) = v[7:0]` (00_scope.md R10). -/
def lo (v : Word) : Byte := v.extractLsb' 0 8

/-- `h : l`, h the high byte (00_scope.md R10). -/
def cat (h l : Byte) : Word := (h ++ l : BitVec (8 + 8))

/-- `zext_16(v)` (00_scope.md R10). -/
def zext16 (v : Byte) : Word := v.setWidth 16

/-- `sext_16(v)` (00_scope.md R10). -/
def sext16 (v : Byte) : Word := v.signExtend 16

/-- Bit i of a byte, bit 0 the least significant (00_scope.md R9). -/
def bit (v : Byte) (i : Nat) : Bool := v.getLsbD i

/-- A byte with its bit i made `on` and its other bits unchanged. -/
def putBit (v : Byte) (i : Nat) (on : Bool) : Byte :=
  if on then v ||| (1#8 <<< i) else v &&& ~~~(1#8 <<< i)

end Sys2Proof.Machine
end

