-- ==== Sys2Proof/Modes.lean ====
section
/-! DEFINITION. The operand shapes of the addressing modes (30_encoding.md R114, R120 to R127). Each type
holds exactly the forms an instruction family has, so that a term names no form the table lacks. -/

namespace Sys2Proof

/-- A memory operand: DIR (R122), EXT (R123), INDX and INDY (R124). -/
inductive Mem
  | dir (dd : Byte)
  | ext (hhll : Word)
  | indx (ff : Byte)
  | indy (ff : Byte)
  deriving DecidableEq, Repr

/-- A memory operand of the families with no direct form: the read-modify-write instructions, CLR, TST and
JMP (R121; 43_shift_rotate.md R369 (c); 44_branch_jump.md R441). -/
inductive MemNoDir
  | ext (hhll : Word)
  | indx (ff : Byte)
  | indy (ff : Byte)
  deriving DecidableEq, Repr

/-- The operand byte of BSET, BCLR, BRSET and BRCLR: direct or indexed, never extended (R126). -/
inductive MemBit
  | dir (dd : Byte)
  | indx (ff : Byte)
  | indy (ff : Byte)
  deriving DecidableEq, Repr

/-- The 8-bit source of an instruction on A or B: IMM8 or memory (R121, R127). -/
inductive Src8
  | imm (ii : Byte)
  | mem (m : Mem)
  deriving DecidableEq, Repr

/-- The 16-bit source of an instruction on D, X, Y or SP: IMM16 or memory (R121, R127). -/
inductive Src16
  | imm (jjkk : Word)
  | mem (m : Mem)
  deriving DecidableEq, Repr

/-- A memory operand without a direct form is a memory operand. -/
def MemNoDir.toMem : MemNoDir → Mem
  | .ext hhll => .ext hhll
  | .indx ff => .indx ff
  | .indy ff => .indy ff

/-- The operand byte of a bit instruction is a memory operand. -/
def MemBit.toMem : MemBit → Mem
  | .dir dd => .dir dd
  | .indx ff => .indx ff
  | .indy ff => .indy ff

end Sys2Proof
end

