-- ==== Sys2Proof/Syntax.lean ====
section
/-! DEFINITION. The instructions: one constructor for each mnemonic of spec/opcode_table.json, its operand
saying the addressing form, so that a row of the table is a constructor with a form. The operands are the
instruction's own bytes (30_encoding.md R114): every value of them is legal (R143). -/

namespace Sys2Proof

/-- The instructions of the 68HC11 (INDEX.md; 30_encoding.md R134). BHS, BLO, LSL, LSLA, LSLB and LSLD are
second spellings of BCC, BCS, ASL, ASLA, ASLB and ASLD (R152). -/
inductive Instr
  -- Loads, stores, stack, transfers (40_load_store_transfer.md)
  | ldaa (src : Src8)
  | ldab (src : Src8)
  | ldd (src : Src16)
  | lds (src : Src16)
  | ldx (src : Src16)
  | ldy (src : Src16)
  | psha
  | pshb
  | pshx
  | pshy
  | pula
  | pulb
  | pulx
  | puly
  | staa (m : Mem)
  | stab (m : Mem)
  | std (m : Mem)
  | sts (m : Mem)
  | stx (m : Mem)
  | sty (m : Mem)
  | tab
  | tap
  | tba
  | tpa
  | tys
  | xgdx
  | xgdy
  -- Arithmetic (41_arithmetic.md)
  | aba
  | abx
  | aby
  | adca (src : Src8)
  | adcb (src : Src8)
  | adda (src : Src8)
  | addb (src : Src8)
  | addd (src : Src16)
  | cba
  | clr (m : MemNoDir)
  | clra
  | clrb
  | cmpa (src : Src8)
  | cmpb (src : Src8)
  | cpd (src : Src16)
  | cpx (src : Src16)
  | cpy (src : Src16)
  | daa
  | dec (m : MemNoDir)
  | deca
  | decb
  | des
  | dex
  | dey
  | fdiv
  | idiv
  | inc (m : MemNoDir)
  | inca
  | incb
  | ins
  | inx
  | iny
  | mul
  | neg (m : MemNoDir)
  | nega
  | negb
  | sba
  | sbca (src : Src8)
  | sbcb (src : Src8)
  | suba (src : Src8)
  | subb (src : Src8)
  | subd (src : Src16)
  -- Logic, bits, flags (42_logic_bit.md)
  | anda (src : Src8)
  | andb (src : Src8)
  | bclr (m : MemBit) (mm : Byte)
  | bita (src : Src8)
  | bitb (src : Src8)
  | bset (m : MemBit) (mm : Byte)
  | clc
  | cli
  | clv
  | com (m : MemNoDir)
  | coma
  | comb
  | eora (src : Src8)
  | eorb (src : Src8)
  | oraa (src : Src8)
  | orab (src : Src8)
  | sec
  | sei
  | sev
  -- Shifts and rotates (43_shift_rotate.md)
  | asl (m : MemNoDir)
  | asla
  | aslb
  | asld
  | asr (m : MemNoDir)
  | asra
  | asrb
  | lsl (m : MemNoDir)
  | lsla
  | lslb
  | lsld
  | lsr (m : MemNoDir)
  | lsra
  | lsrb
  | lsrd
  | rol (m : MemNoDir)
  | rola
  | rolb
  | ror (m : MemNoDir)
  | rora
  | rorb
  -- Branches, jumps, calls (44_branch_jump.md)
  | bcc (rr : Byte)
  | bcs (rr : Byte)
  | beq (rr : Byte)
  | bge (rr : Byte)
  | bgt (rr : Byte)
  | bhi (rr : Byte)
  | bhs (rr : Byte)
  | ble (rr : Byte)
  | blo (rr : Byte)
  | bls (rr : Byte)
  | blt (rr : Byte)
  | bmi (rr : Byte)
  | bne (rr : Byte)
  | bpl (rr : Byte)
  | bra (rr : Byte)
  | brn (rr : Byte)
  | brclr (m : MemBit) (mm rr : Byte)
  | brset (m : MemBit) (mm rr : Byte)
  | bsr (rr : Byte)
  | bvc (rr : Byte)
  | bvs (rr : Byte)
  | jmp (m : MemNoDir)
  | jsr (m : Mem)
  | nop
  | rts
  -- System (45_system.md)
  | rti
  | stop
  | swi
  | wai
  -- Omitted by the source (46_absent_from_source.md)
  | test
  | tst (m : MemNoDir)
  | tsta
  | tstb
  | tsx
  | tsy
  | txs
  deriving DecidableEq, Repr

end Sys2Proof
end

