-- ==== Sys2Proof/WellFormed.lean ====
section
/-! DEFINITION. Which instruction terms have bytes of their own. Every operand byte is legal (30_encoding.md
R143) and the operand types of Modes.lean hold only the forms the table has, so the one check left is that the
term is no second spelling (R152): a decoder produces one instruction for those bytes (43_shift_rotate.md R377,
44_branch_jump.md R418). -/

namespace Sys2Proof

/-- The instruction whose bytes a second spelling shares (30_encoding.md R152); any other instruction
itself. -/
def Instr.core : Instr → Instr
  | .bhs rr => .bcc rr
  | .blo rr => .bcs rr
  | .lsl m => .asl m
  | .lsla => .asla
  | .lslb => .aslb
  | .lsld => .asld
  | i => i

/-- Well-formed: the term is the one the decoder gives for its bytes, no second spelling of another
(30_encoding.md R152). -/
def WellFormed (i : Instr) : Bool := decide (i.core = i)

end Sys2Proof
end

