-- ==== Sys2Proof/Decode.lean ====
section
/-! DEFINITION. The opcode map and the decoder (30_encoding.md R110 to R114, R130 to R134, R140), then the
encoder, written from the "Encoding" lines of the instruction rules. -/

namespace Sys2Proof

/-- Two instruction bytes as a 16-bit operand, the first the high byte (20_memory.md R78). -/
def word (h l : Byte) : Word := Sys2Proof.Machine.cat h l

/-- The four opcode pages (30_encoding.md R112). -/
inductive Page
  | p1
  | p2
  | p3
  | p4
  deriving DecidableEq, Repr

/-- What a cell of the opcode map says: how many operand bytes follow (30_encoding.md R114) and the
instruction they make, the bytes taken in ascending address order. -/
inductive Template
  | none (i : Instr)
  | one (f : Byte → Instr)
  | two (f : Byte → Byte → Instr)
  | three (f : Byte → Byte → Byte → Instr)

/-- Why bytes decode to no instruction. -/
inductive DecodeError
  /-- No row of the opcode map has this page and opcode (30_encoding.md R140). -/
  | illegalOpcode (page : Page) (op : Byte)
  /-- The bytes end before the instruction does. -/
  | truncated
  deriving DecidableEq, Repr

/-- The answer of the decoder: an instruction and the bytes after it, or a rejection by name. -/
inductive Decoded
  | ok (i : Instr) (rest : List Byte)
  | rejected (e : DecodeError)
  deriving DecidableEq, Repr

/-- The page a first byte selects, if it is a prebyte (30_encoding.md R112, R113). -/
def prebytePage (b0 : Byte) : Option Page :=
  if b0 = 0x18 then some .p2 else if b0 = 0x1A then some .p3 else if b0 = 0xCD then some .p4 else none

/-- Page 1, opcodes $00 to $0F (30_encoding.md R130). -/
def page1Row0 : List (Byte × Template) :=
  [(0x00, .none .test),
   (0x01, .none .nop),
   (0x02, .none .idiv),
   (0x03, .none .fdiv),
   (0x04, .none .lsrd),
   (0x05, .none .asld),
   (0x06, .none .tap),
   (0x07, .none .tpa),
   (0x08, .none .inx),
   (0x09, .none .dex),
   (0x0A, .none .clv),
   (0x0B, .none .sev),
   (0x0C, .none .clc),
   (0x0D, .none .sec),
   (0x0E, .none .cli),
   (0x0F, .none .sei)]

/-- Page 1, opcodes $10 to $1F (30_encoding.md R130). -/
def page1Row1 : List (Byte × Template) :=
  [(0x10, .none .sba),
   (0x11, .none .cba),
   (0x12, .three fun dd mm rr => .brset (.dir dd) mm rr),
   (0x13, .three fun dd mm rr => .brclr (.dir dd) mm rr),
   (0x14, .two fun dd mm => .bset (.dir dd) mm),
   (0x15, .two fun dd mm => .bclr (.dir dd) mm),
   (0x16, .none .tab),
   (0x17, .none .tba),
   (0x19, .none .daa),
   (0x1B, .none .aba),
   (0x1C, .two fun ff mm => .bset (.indx ff) mm),
   (0x1D, .two fun ff mm => .bclr (.indx ff) mm),
   (0x1E, .three fun ff mm rr => .brset (.indx ff) mm rr),
   (0x1F, .three fun ff mm rr => .brclr (.indx ff) mm rr)]

/-- Page 1, opcodes $20 to $2F (30_encoding.md R130). -/
def page1Row2 : List (Byte × Template) :=
  [(0x20, .one fun rr => .bra rr),
   (0x21, .one fun rr => .brn rr),
   (0x22, .one fun rr => .bhi rr),
   (0x23, .one fun rr => .bls rr),
   (0x24, .one fun rr => .bcc rr),
   (0x25, .one fun rr => .bcs rr),
   (0x26, .one fun rr => .bne rr),
   (0x27, .one fun rr => .beq rr),
   (0x28, .one fun rr => .bvc rr),
   (0x29, .one fun rr => .bvs rr),
   (0x2A, .one fun rr => .bpl rr),
   (0x2B, .one fun rr => .bmi rr),
   (0x2C, .one fun rr => .bge rr),
   (0x2D, .one fun rr => .blt rr),
   (0x2E, .one fun rr => .bgt rr),
   (0x2F, .one fun rr => .ble rr)]

/-- Page 1, opcodes $30 to $3F (30_encoding.md R130). -/
def page1Row3 : List (Byte × Template) :=
  [(0x30, .none .tsx),
   (0x31, .none .ins),
   (0x32, .none .pula),
   (0x33, .none .pulb),
   (0x34, .none .des),
   (0x35, .none .txs),
   (0x36, .none .psha),
   (0x37, .none .pshb),
   (0x38, .none .pulx),
   (0x39, .none .rts),
   (0x3A, .none .abx),
   (0x3B, .none .rti),
   (0x3C, .none .pshx),
   (0x3D, .none .mul),
   (0x3E, .none .wai),
   (0x3F, .none .swi)]

/-- Page 1, opcodes $40 to $4F (30_encoding.md R130). -/
def page1Row4 : List (Byte × Template) :=
  [(0x40, .none .nega),
   (0x43, .none .coma),
   (0x44, .none .lsra),
   (0x46, .none .rora),
   (0x47, .none .asra),
   (0x48, .none .asla),
   (0x49, .none .rola),
   (0x4A, .none .deca),
   (0x4C, .none .inca),
   (0x4D, .none .tsta),
   (0x4F, .none .clra)]

/-- Page 1, opcodes $50 to $5F (30_encoding.md R130). -/
def page1Row5 : List (Byte × Template) :=
  [(0x50, .none .negb),
   (0x53, .none .comb),
   (0x54, .none .lsrb),
   (0x56, .none .rorb),
   (0x57, .none .asrb),
   (0x58, .none .aslb),
   (0x59, .none .rolb),
   (0x5A, .none .decb),
   (0x5C, .none .incb),
   (0x5D, .none .tstb),
   (0x5F, .none .clrb)]

/-- Page 1, opcodes $60 to $6F (30_encoding.md R130). -/
def page1Row6 : List (Byte × Template) :=
  [(0x60, .one fun ff => .neg (.indx ff)),
   (0x63, .one fun ff => .com (.indx ff)),
   (0x64, .one fun ff => .lsr (.indx ff)),
   (0x66, .one fun ff => .ror (.indx ff)),
   (0x67, .one fun ff => .asr (.indx ff)),
   (0x68, .one fun ff => .asl (.indx ff)),
   (0x69, .one fun ff => .rol (.indx ff)),
   (0x6A, .one fun ff => .dec (.indx ff)),
   (0x6C, .one fun ff => .inc (.indx ff)),
   (0x6D, .one fun ff => .tst (.indx ff)),
   (0x6E, .one fun ff => .jmp (.indx ff)),
   (0x6F, .one fun ff => .clr (.indx ff))]

/-- Page 1, opcodes $70 to $7F (30_encoding.md R130). -/
def page1Row7 : List (Byte × Template) :=
  [(0x70, .two fun hh ll => .neg (.ext (word hh ll))),
   (0x73, .two fun hh ll => .com (.ext (word hh ll))),
   (0x74, .two fun hh ll => .lsr (.ext (word hh ll))),
   (0x76, .two fun hh ll => .ror (.ext (word hh ll))),
   (0x77, .two fun hh ll => .asr (.ext (word hh ll))),
   (0x78, .two fun hh ll => .asl (.ext (word hh ll))),
   (0x79, .two fun hh ll => .rol (.ext (word hh ll))),
   (0x7A, .two fun hh ll => .dec (.ext (word hh ll))),
   (0x7C, .two fun hh ll => .inc (.ext (word hh ll))),
   (0x7D, .two fun hh ll => .tst (.ext (word hh ll))),
   (0x7E, .two fun hh ll => .jmp (.ext (word hh ll))),
   (0x7F, .two fun hh ll => .clr (.ext (word hh ll)))]

/-- Page 1, opcodes $80 to $8F (30_encoding.md R130). -/
def page1Row8 : List (Byte × Template) :=
  [(0x80, .one fun ii => .suba (.imm ii)),
   (0x81, .one fun ii => .cmpa (.imm ii)),
   (0x82, .one fun ii => .sbca (.imm ii)),
   (0x83, .two fun jj kk => .subd (.imm (word jj kk))),
   (0x84, .one fun ii => .anda (.imm ii)),
   (0x85, .one fun ii => .bita (.imm ii)),
   (0x86, .one fun ii => .ldaa (.imm ii)),
   (0x88, .one fun ii => .eora (.imm ii)),
   (0x89, .one fun ii => .adca (.imm ii)),
   (0x8A, .one fun ii => .oraa (.imm ii)),
   (0x8B, .one fun ii => .adda (.imm ii)),
   (0x8C, .two fun jj kk => .cpx (.imm (word jj kk))),
   (0x8D, .one fun rr => .bsr rr),
   (0x8E, .two fun jj kk => .lds (.imm (word jj kk))),
   (0x8F, .none .xgdx)]

/-- Page 1, opcodes $90 to $9F (30_encoding.md R130). -/
def page1Row9 : List (Byte × Template) :=
  [(0x90, .one fun dd => .suba (.mem (.dir dd))),
   (0x91, .one fun dd => .cmpa (.mem (.dir dd))),
   (0x92, .one fun dd => .sbca (.mem (.dir dd))),
   (0x93, .one fun dd => .subd (.mem (.dir dd))),
   (0x94, .one fun dd => .anda (.mem (.dir dd))),
   (0x95, .one fun dd => .bita (.mem (.dir dd))),
   (0x96, .one fun dd => .ldaa (.mem (.dir dd))),
   (0x97, .one fun dd => .staa (.dir dd)),
   (0x98, .one fun dd => .eora (.mem (.dir dd))),
   (0x99, .one fun dd => .adca (.mem (.dir dd))),
   (0x9A, .one fun dd => .oraa (.mem (.dir dd))),
   (0x9B, .one fun dd => .adda (.mem (.dir dd))),
   (0x9C, .one fun dd => .cpx (.mem (.dir dd))),
   (0x9D, .one fun dd => .jsr (.dir dd)),
   (0x9E, .one fun dd => .lds (.mem (.dir dd))),
   (0x9F, .one fun dd => .sts (.dir dd))]

/-- Page 1, opcodes $A0 to $AF (30_encoding.md R130). -/
def page1RowA : List (Byte × Template) :=
  [(0xA0, .one fun ff => .suba (.mem (.indx ff))),
   (0xA1, .one fun ff => .cmpa (.mem (.indx ff))),
   (0xA2, .one fun ff => .sbca (.mem (.indx ff))),
   (0xA3, .one fun ff => .subd (.mem (.indx ff))),
   (0xA4, .one fun ff => .anda (.mem (.indx ff))),
   (0xA5, .one fun ff => .bita (.mem (.indx ff))),
   (0xA6, .one fun ff => .ldaa (.mem (.indx ff))),
   (0xA7, .one fun ff => .staa (.indx ff)),
   (0xA8, .one fun ff => .eora (.mem (.indx ff))),
   (0xA9, .one fun ff => .adca (.mem (.indx ff))),
   (0xAA, .one fun ff => .oraa (.mem (.indx ff))),
   (0xAB, .one fun ff => .adda (.mem (.indx ff))),
   (0xAC, .one fun ff => .cpx (.mem (.indx ff))),
   (0xAD, .one fun ff => .jsr (.indx ff)),
   (0xAE, .one fun ff => .lds (.mem (.indx ff))),
   (0xAF, .one fun ff => .sts (.indx ff))]

/-- Page 1, opcodes $B0 to $BF (30_encoding.md R130). -/
def page1RowB : List (Byte × Template) :=
  [(0xB0, .two fun hh ll => .suba (.mem (.ext (word hh ll)))),
   (0xB1, .two fun hh ll => .cmpa (.mem (.ext (word hh ll)))),
   (0xB2, .two fun hh ll => .sbca (.mem (.ext (word hh ll)))),
   (0xB3, .two fun hh ll => .subd (.mem (.ext (word hh ll)))),
   (0xB4, .two fun hh ll => .anda (.mem (.ext (word hh ll)))),
   (0xB5, .two fun hh ll => .bita (.mem (.ext (word hh ll)))),
   (0xB6, .two fun hh ll => .ldaa (.mem (.ext (word hh ll)))),
   (0xB7, .two fun hh ll => .staa (.ext (word hh ll))),
   (0xB8, .two fun hh ll => .eora (.mem (.ext (word hh ll)))),
   (0xB9, .two fun hh ll => .adca (.mem (.ext (word hh ll)))),
   (0xBA, .two fun hh ll => .oraa (.mem (.ext (word hh ll)))),
   (0xBB, .two fun hh ll => .adda (.mem (.ext (word hh ll)))),
   (0xBC, .two fun hh ll => .cpx (.mem (.ext (word hh ll)))),
   (0xBD, .two fun hh ll => .jsr (.ext (word hh ll))),
   (0xBE, .two fun hh ll => .lds (.mem (.ext (word hh ll)))),
   (0xBF, .two fun hh ll => .sts (.ext (word hh ll)))]

/-- Page 1, opcodes $C0 to $CF (30_encoding.md R130). -/
def page1RowC : List (Byte × Template) :=
  [(0xC0, .one fun ii => .subb (.imm ii)),
   (0xC1, .one fun ii => .cmpb (.imm ii)),
   (0xC2, .one fun ii => .sbcb (.imm ii)),
   (0xC3, .two fun jj kk => .addd (.imm (word jj kk))),
   (0xC4, .one fun ii => .andb (.imm ii)),
   (0xC5, .one fun ii => .bitb (.imm ii)),
   (0xC6, .one fun ii => .ldab (.imm ii)),
   (0xC8, .one fun ii => .eorb (.imm ii)),
   (0xC9, .one fun ii => .adcb (.imm ii)),
   (0xCA, .one fun ii => .orab (.imm ii)),
   (0xCB, .one fun ii => .addb (.imm ii)),
   (0xCC, .two fun jj kk => .ldd (.imm (word jj kk))),
   (0xCE, .two fun jj kk => .ldx (.imm (word jj kk))),
   (0xCF, .none .stop)]

/-- Page 1, opcodes $D0 to $DF (30_encoding.md R130). -/
def page1RowD : List (Byte × Template) :=
  [(0xD0, .one fun dd => .subb (.mem (.dir dd))),
   (0xD1, .one fun dd => .cmpb (.mem (.dir dd))),
   (0xD2, .one fun dd => .sbcb (.mem (.dir dd))),
   (0xD3, .one fun dd => .addd (.mem (.dir dd))),
   (0xD4, .one fun dd => .andb (.mem (.dir dd))),
   (0xD5, .one fun dd => .bitb (.mem (.dir dd))),
   (0xD6, .one fun dd => .ldab (.mem (.dir dd))),
   (0xD7, .one fun dd => .stab (.dir dd)),
   (0xD8, .one fun dd => .eorb (.mem (.dir dd))),
   (0xD9, .one fun dd => .adcb (.mem (.dir dd))),
   (0xDA, .one fun dd => .orab (.mem (.dir dd))),
   (0xDB, .one fun dd => .addb (.mem (.dir dd))),
   (0xDC, .one fun dd => .ldd (.mem (.dir dd))),
   (0xDD, .one fun dd => .std (.dir dd)),
   (0xDE, .one fun dd => .ldx (.mem (.dir dd))),
   (0xDF, .one fun dd => .stx (.dir dd))]

/-- Page 1, opcodes $E0 to $EF (30_encoding.md R130). -/
def page1RowE : List (Byte × Template) :=
  [(0xE0, .one fun ff => .subb (.mem (.indx ff))),
   (0xE1, .one fun ff => .cmpb (.mem (.indx ff))),
   (0xE2, .one fun ff => .sbcb (.mem (.indx ff))),
   (0xE3, .one fun ff => .addd (.mem (.indx ff))),
   (0xE4, .one fun ff => .andb (.mem (.indx ff))),
   (0xE5, .one fun ff => .bitb (.mem (.indx ff))),
   (0xE6, .one fun ff => .ldab (.mem (.indx ff))),
   (0xE7, .one fun ff => .stab (.indx ff)),
   (0xE8, .one fun ff => .eorb (.mem (.indx ff))),
   (0xE9, .one fun ff => .adcb (.mem (.indx ff))),
   (0xEA, .one fun ff => .orab (.mem (.indx ff))),
   (0xEB, .one fun ff => .addb (.mem (.indx ff))),
   (0xEC, .one fun ff => .ldd (.mem (.indx ff))),
   (0xED, .one fun ff => .std (.indx ff)),
   (0xEE, .one fun ff => .ldx (.mem (.indx ff))),
   (0xEF, .one fun ff => .stx (.indx ff))]

/-- Page 1, opcodes $F0 to $FF (30_encoding.md R130). -/
def page1RowF : List (Byte × Template) :=
  [(0xF0, .two fun hh ll => .subb (.mem (.ext (word hh ll)))),
   (0xF1, .two fun hh ll => .cmpb (.mem (.ext (word hh ll)))),
   (0xF2, .two fun hh ll => .sbcb (.mem (.ext (word hh ll)))),
   (0xF3, .two fun hh ll => .addd (.mem (.ext (word hh ll)))),
   (0xF4, .two fun hh ll => .andb (.mem (.ext (word hh ll)))),
   (0xF5, .two fun hh ll => .bitb (.mem (.ext (word hh ll)))),
   (0xF6, .two fun hh ll => .ldab (.mem (.ext (word hh ll)))),
   (0xF7, .two fun hh ll => .stab (.ext (word hh ll))),
   (0xF8, .two fun hh ll => .eorb (.mem (.ext (word hh ll)))),
   (0xF9, .two fun hh ll => .adcb (.mem (.ext (word hh ll)))),
   (0xFA, .two fun hh ll => .orab (.mem (.ext (word hh ll)))),
   (0xFB, .two fun hh ll => .addb (.mem (.ext (word hh ll)))),
   (0xFC, .two fun hh ll => .ldd (.mem (.ext (word hh ll)))),
   (0xFD, .two fun hh ll => .std (.ext (word hh ll))),
   (0xFE, .two fun hh ll => .ldx (.mem (.ext (word hh ll)))),
   (0xFF, .two fun hh ll => .stx (.ext (word hh ll)))]

/-- The opcode map with no prebyte (30_encoding.md R130). -/
def page1 : List (Byte × Template) :=
  page1Row0 ++ page1Row1 ++ page1Row2 ++ page1Row3 ++ page1Row4 ++ page1Row5 ++ page1Row6 ++
    page1Row7 ++ page1Row8 ++ page1Row9 ++ page1RowA ++ page1RowB ++ page1RowC ++ page1RowD ++
    page1RowE ++ page1RowF

/-- Page 2 (30_encoding.md R131). -/
def page2Rows0to3 : List (Byte × Template) :=
  [(0x08, .none .iny),
   (0x09, .none .dey),
   (0x1C, .two fun ff mm => .bset (.indy ff) mm),
   (0x1D, .two fun ff mm => .bclr (.indy ff) mm),
   (0x1E, .three fun ff mm rr => .brset (.indy ff) mm rr),
   (0x1F, .three fun ff mm rr => .brclr (.indy ff) mm rr),
   (0x30, .none .tsy),
   (0x35, .none .tys),
   (0x38, .none .puly),
   (0x3A, .none .aby),
   (0x3C, .none .pshy)]

/-- Page 2 (30_encoding.md R131). -/
def page2Rows6 : List (Byte × Template) :=
  [(0x60, .one fun ff => .neg (.indy ff)),
   (0x63, .one fun ff => .com (.indy ff)),
   (0x64, .one fun ff => .lsr (.indy ff)),
   (0x66, .one fun ff => .ror (.indy ff)),
   (0x67, .one fun ff => .asr (.indy ff)),
   (0x68, .one fun ff => .asl (.indy ff)),
   (0x69, .one fun ff => .rol (.indy ff)),
   (0x6A, .one fun ff => .dec (.indy ff)),
   (0x6C, .one fun ff => .inc (.indy ff)),
   (0x6D, .one fun ff => .tst (.indy ff)),
   (0x6E, .one fun ff => .jmp (.indy ff)),
   (0x6F, .one fun ff => .clr (.indy ff))]

/-- Page 2 (30_encoding.md R131). -/
def page2Rows8to9 : List (Byte × Template) :=
  [(0x8C, .two fun jj kk => .cpy (.imm (word jj kk))),
   (0x8F, .none .xgdy),
   (0x9C, .one fun dd => .cpy (.mem (.dir dd)))]

/-- Page 2 (30_encoding.md R131). -/
def page2RowsAtoB : List (Byte × Template) :=
  [(0xA0, .one fun ff => .suba (.mem (.indy ff))),
   (0xA1, .one fun ff => .cmpa (.mem (.indy ff))),
   (0xA2, .one fun ff => .sbca (.mem (.indy ff))),
   (0xA3, .one fun ff => .subd (.mem (.indy ff))),
   (0xA4, .one fun ff => .anda (.mem (.indy ff))),
   (0xA5, .one fun ff => .bita (.mem (.indy ff))),
   (0xA6, .one fun ff => .ldaa (.mem (.indy ff))),
   (0xA7, .one fun ff => .staa (.indy ff)),
   (0xA8, .one fun ff => .eora (.mem (.indy ff))),
   (0xA9, .one fun ff => .adca (.mem (.indy ff))),
   (0xAA, .one fun ff => .oraa (.mem (.indy ff))),
   (0xAB, .one fun ff => .adda (.mem (.indy ff))),
   (0xAC, .one fun ff => .cpy (.mem (.indy ff))),
   (0xAD, .one fun ff => .jsr (.indy ff)),
   (0xAE, .one fun ff => .lds (.mem (.indy ff))),
   (0xAF, .one fun ff => .sts (.indy ff)),
   (0xBC, .two fun hh ll => .cpy (.mem (.ext (word hh ll))))]

/-- Page 2 (30_encoding.md R131). -/
def page2RowsCtoF : List (Byte × Template) :=
  [(0xCE, .two fun jj kk => .ldy (.imm (word jj kk))),
   (0xDE, .one fun dd => .ldy (.mem (.dir dd))),
   (0xDF, .one fun dd => .sty (.dir dd)),
   (0xE0, .one fun ff => .subb (.mem (.indy ff))),
   (0xE1, .one fun ff => .cmpb (.mem (.indy ff))),
   (0xE2, .one fun ff => .sbcb (.mem (.indy ff))),
   (0xE3, .one fun ff => .addd (.mem (.indy ff))),
   (0xE4, .one fun ff => .andb (.mem (.indy ff))),
   (0xE5, .one fun ff => .bitb (.mem (.indy ff))),
   (0xE6, .one fun ff => .ldab (.mem (.indy ff))),
   (0xE7, .one fun ff => .stab (.indy ff)),
   (0xE8, .one fun ff => .eorb (.mem (.indy ff))),
   (0xE9, .one fun ff => .adcb (.mem (.indy ff))),
   (0xEA, .one fun ff => .orab (.mem (.indy ff))),
   (0xEB, .one fun ff => .addb (.mem (.indy ff))),
   (0xEC, .one fun ff => .ldd (.mem (.indy ff))),
   (0xED, .one fun ff => .std (.indy ff)),
   (0xEE, .one fun ff => .ldy (.mem (.indy ff))),
   (0xEF, .one fun ff => .sty (.indy ff)),
   (0xFE, .two fun hh ll => .ldy (.mem (.ext (word hh ll)))),
   (0xFF, .two fun hh ll => .sty (.ext (word hh ll)))]

/-- The opcode map behind prebyte $18 (30_encoding.md R131). -/
def page2 : List (Byte × Template) :=
  page2Rows0to3 ++ page2Rows6 ++ page2Rows8to9 ++ page2RowsAtoB ++ page2RowsCtoF

/-- Page 3 (30_encoding.md R132). -/
def page3 : List (Byte × Template) :=
  [(0x83, .two fun jj kk => .cpd (.imm (word jj kk))),
   (0x93, .one fun dd => .cpd (.mem (.dir dd))),
   (0xA3, .one fun ff => .cpd (.mem (.indx ff))),
   (0xAC, .one fun ff => .cpy (.mem (.indx ff))),
   (0xB3, .two fun hh ll => .cpd (.mem (.ext (word hh ll)))),
   (0xEE, .one fun ff => .ldy (.mem (.indx ff))),
   (0xEF, .one fun ff => .sty (.indx ff))]

/-- Page 4 (30_encoding.md R133). -/
def page4 : List (Byte × Template) :=
  [(0xA3, .one fun ff => .cpd (.mem (.indy ff))),
   (0xAC, .one fun ff => .cpx (.mem (.indy ff))),
   (0xEE, .one fun ff => .ldx (.mem (.indy ff))),
   (0xEF, .one fun ff => .stx (.indy ff))]

/-- The opcode map (30_encoding.md R130 to R133). -/
def pageTable : Page → List (Byte × Template)
  | .p1 => page1
  | .p2 => page2
  | .p3 => page3
  | .p4 => page4

/-- The cell of a page and opcode; none where it is illegal (30_encoding.md R140). -/
def opcodeCell (p : Page) (op : Byte) : Option Template := (pageTable p).lookup op

/-- The operand bytes of a cell, taken from the bytes after the opcode. -/
def decodeOperands : Template → List Byte → Decoded
  | .none i, rest => .ok i rest
  | .one f, x :: rest => .ok (f x) rest
  | .two f, x :: y :: rest => .ok (f x y) rest
  | .three f, x :: y :: z :: rest => .ok (f x y z) rest
  | .one _, [] | .two _, [] | .two _, [_] | .three _, [] | .three _, [_] | .three _, [_, _] => .rejected .truncated

/-- An opcode byte and what follows it, on a page already known. -/
def decodeOpcode (p : Page) (op : Byte) (rest : List Byte) : Decoded :=
  match opcodeCell p op with
  | some t => decodeOperands t rest
  | none => .rejected (.illegalOpcode p op)

/-- The decoding algorithm on the bytes at PC (30_encoding.md R112): total on any bytes. -/
def decode : List Byte → Decoded
  | [] => .rejected .truncated
  | b0 :: rest =>
    match prebytePage b0, rest with
    | none, _ => decodeOpcode .p1 b0 rest
    | some _, [] => .rejected .truncated
    | some p, op :: rest' => decodeOpcode p op rest'

/-- A memory operand behind the opcode bytes of its form (30_encoding.md R114). -/
def memBytes (dir ext indx indy : List Byte) : Mem → List Byte
  | .dir dd => dir ++ [dd]
  | .ext a => ext ++ [Sys2Proof.Machine.hi a, Sys2Proof.Machine.lo a]
  | .indx ff => indx ++ [ff]
  | .indy ff => indy ++ [ff]

/-- An 8-bit source behind the opcode bytes of its form (30_encoding.md R114). -/
def src8Bytes (imm dir ext indx indy : List Byte) : Src8 → List Byte
  | .imm ii => imm ++ [ii]
  | .mem m => memBytes dir ext indx indy m

/-- A 16-bit source behind the opcode bytes of its form (30_encoding.md R114). -/
def src16Bytes (imm dir ext indx indy : List Byte) : Src16 → List Byte
  | .imm v => imm ++ [Sys2Proof.Machine.hi v, Sys2Proof.Machine.lo v]
  | .mem m => memBytes dir ext indx indy m

/-- The bytes of an instruction, from the "Encoding" lines of its rule: opcode bytes in the order immediate,
direct, extended, indexed X, indexed Y, an empty list where the operand type has no such form. -/
def encode : Instr → List Byte
  -- Loads, stores, stack, transfers (40_load_store_transfer.md)
  | .ldaa src => src8Bytes [0x86] [0x96] [0xB6] [0xA6] [0x18, 0xA6] src
  | .ldab src => src8Bytes [0xC6] [0xD6] [0xF6] [0xE6] [0x18, 0xE6] src
  | .ldd src => src16Bytes [0xCC] [0xDC] [0xFC] [0xEC] [0x18, 0xEC] src
  | .lds src => src16Bytes [0x8E] [0x9E] [0xBE] [0xAE] [0x18, 0xAE] src
  | .ldx src => src16Bytes [0xCE] [0xDE] [0xFE] [0xEE] [0xCD, 0xEE] src
  | .ldy src => src16Bytes [0x18, 0xCE] [0x18, 0xDE] [0x18, 0xFE] [0x1A, 0xEE] [0x18, 0xEE] src
  | .psha => [0x36]
  | .pshb => [0x37]
  | .pshx => [0x3C]
  | .pshy => [0x18, 0x3C]
  | .pula => [0x32]
  | .pulb => [0x33]
  | .pulx => [0x38]
  | .puly => [0x18, 0x38]
  | .staa m => memBytes [0x97] [0xB7] [0xA7] [0x18, 0xA7] m
  | .stab m => memBytes [0xD7] [0xF7] [0xE7] [0x18, 0xE7] m
  | .std m => memBytes [0xDD] [0xFD] [0xED] [0x18, 0xED] m
  | .sts m => memBytes [0x9F] [0xBF] [0xAF] [0x18, 0xAF] m
  | .stx m => memBytes [0xDF] [0xFF] [0xEF] [0xCD, 0xEF] m
  | .sty m => memBytes [0x18, 0xDF] [0x18, 0xFF] [0x1A, 0xEF] [0x18, 0xEF] m
  | .tab => [0x16]
  | .tap => [0x06]
  | .tba => [0x17]
  | .tpa => [0x07]
  | .tys => [0x18, 0x35]
  | .xgdx => [0x8F]
  | .xgdy => [0x18, 0x8F]
  -- Arithmetic (41_arithmetic.md)
  | .aba => [0x1B]
  | .abx => [0x3A]
  | .aby => [0x18, 0x3A]
  | .adca src => src8Bytes [0x89] [0x99] [0xB9] [0xA9] [0x18, 0xA9] src
  | .adcb src => src8Bytes [0xC9] [0xD9] [0xF9] [0xE9] [0x18, 0xE9] src
  | .adda src => src8Bytes [0x8B] [0x9B] [0xBB] [0xAB] [0x18, 0xAB] src
  | .addb src => src8Bytes [0xCB] [0xDB] [0xFB] [0xEB] [0x18, 0xEB] src
  | .addd src => src16Bytes [0xC3] [0xD3] [0xF3] [0xE3] [0x18, 0xE3] src
  | .cba => [0x11]
  | .clr m => memBytes [] [0x7F] [0x6F] [0x18, 0x6F] m.toMem
  | .clra => [0x4F]
  | .clrb => [0x5F]
  | .cmpa src => src8Bytes [0x81] [0x91] [0xB1] [0xA1] [0x18, 0xA1] src
  | .cmpb src => src8Bytes [0xC1] [0xD1] [0xF1] [0xE1] [0x18, 0xE1] src
  | .cpd src => src16Bytes [0x1A, 0x83] [0x1A, 0x93] [0x1A, 0xB3] [0x1A, 0xA3] [0xCD, 0xA3] src
  | .cpx src => src16Bytes [0x8C] [0x9C] [0xBC] [0xAC] [0xCD, 0xAC] src
  | .cpy src => src16Bytes [0x18, 0x8C] [0x18, 0x9C] [0x18, 0xBC] [0x1A, 0xAC] [0x18, 0xAC] src
  | .daa => [0x19]
  | .dec m => memBytes [] [0x7A] [0x6A] [0x18, 0x6A] m.toMem
  | .deca => [0x4A]
  | .decb => [0x5A]
  | .des => [0x34]
  | .dex => [0x09]
  | .dey => [0x18, 0x09]
  | .fdiv => [0x03]
  | .idiv => [0x02]
  | .inc m => memBytes [] [0x7C] [0x6C] [0x18, 0x6C] m.toMem
  | .inca => [0x4C]
  | .incb => [0x5C]
  | .ins => [0x31]
  | .inx => [0x08]
  | .iny => [0x18, 0x08]
  | .mul => [0x3D]
  | .neg m => memBytes [] [0x70] [0x60] [0x18, 0x60] m.toMem
  | .nega => [0x40]
  | .negb => [0x50]
  | .sba => [0x10]
  | .sbca src => src8Bytes [0x82] [0x92] [0xB2] [0xA2] [0x18, 0xA2] src
  | .sbcb src => src8Bytes [0xC2] [0xD2] [0xF2] [0xE2] [0x18, 0xE2] src
  | .suba src => src8Bytes [0x80] [0x90] [0xB0] [0xA0] [0x18, 0xA0] src
  | .subb src => src8Bytes [0xC0] [0xD0] [0xF0] [0xE0] [0x18, 0xE0] src
  | .subd src => src16Bytes [0x83] [0x93] [0xB3] [0xA3] [0x18, 0xA3] src
  -- Logic, bits, flags (42_logic_bit.md)
  | .anda src => src8Bytes [0x84] [0x94] [0xB4] [0xA4] [0x18, 0xA4] src
  | .andb src => src8Bytes [0xC4] [0xD4] [0xF4] [0xE4] [0x18, 0xE4] src
  | .bclr m mm => memBytes [0x15] [] [0x1D] [0x18, 0x1D] m.toMem ++ [mm]
  | .bita src => src8Bytes [0x85] [0x95] [0xB5] [0xA5] [0x18, 0xA5] src
  | .bitb src => src8Bytes [0xC5] [0xD5] [0xF5] [0xE5] [0x18, 0xE5] src
  | .bset m mm => memBytes [0x14] [] [0x1C] [0x18, 0x1C] m.toMem ++ [mm]
  | .clc => [0x0C]
  | .cli => [0x0E]
  | .clv => [0x0A]
  | .com m => memBytes [] [0x73] [0x63] [0x18, 0x63] m.toMem
  | .coma => [0x43]
  | .comb => [0x53]
  | .eora src => src8Bytes [0x88] [0x98] [0xB8] [0xA8] [0x18, 0xA8] src
  | .eorb src => src8Bytes [0xC8] [0xD8] [0xF8] [0xE8] [0x18, 0xE8] src
  | .oraa src => src8Bytes [0x8A] [0x9A] [0xBA] [0xAA] [0x18, 0xAA] src
  | .orab src => src8Bytes [0xCA] [0xDA] [0xFA] [0xEA] [0x18, 0xEA] src
  | .sec => [0x0D]
  | .sei => [0x0F]
  | .sev => [0x0B]
  -- Shifts and rotates (43_shift_rotate.md)
  | .asl m => memBytes [] [0x78] [0x68] [0x18, 0x68] m.toMem
  | .asla => [0x48]
  | .aslb => [0x58]
  | .asld => [0x05]
  | .asr m => memBytes [] [0x77] [0x67] [0x18, 0x67] m.toMem
  | .asra => [0x47]
  | .asrb => [0x57]
  | .lsl m => memBytes [] [0x78] [0x68] [0x18, 0x68] m.toMem
  | .lsla => [0x48]
  | .lslb => [0x58]
  | .lsld => [0x05]
  | .lsr m => memBytes [] [0x74] [0x64] [0x18, 0x64] m.toMem
  | .lsra => [0x44]
  | .lsrb => [0x54]
  | .lsrd => [0x04]
  | .rol m => memBytes [] [0x79] [0x69] [0x18, 0x69] m.toMem
  | .rola => [0x49]
  | .rolb => [0x59]
  | .ror m => memBytes [] [0x76] [0x66] [0x18, 0x66] m.toMem
  | .rora => [0x46]
  | .rorb => [0x56]
  -- Branches, jumps, calls (44_branch_jump.md)
  | .bcc rr => [0x24] ++ [rr]
  | .bcs rr => [0x25] ++ [rr]
  | .beq rr => [0x27] ++ [rr]
  | .bge rr => [0x2C] ++ [rr]
  | .bgt rr => [0x2E] ++ [rr]
  | .bhi rr => [0x22] ++ [rr]
  | .bhs rr => [0x24] ++ [rr]
  | .ble rr => [0x2F] ++ [rr]
  | .blo rr => [0x25] ++ [rr]
  | .bls rr => [0x23] ++ [rr]
  | .blt rr => [0x2D] ++ [rr]
  | .bmi rr => [0x2B] ++ [rr]
  | .bne rr => [0x26] ++ [rr]
  | .bpl rr => [0x2A] ++ [rr]
  | .bra rr => [0x20] ++ [rr]
  | .brn rr => [0x21] ++ [rr]
  | .brclr m mm rr => memBytes [0x13] [] [0x1F] [0x18, 0x1F] m.toMem ++ [mm, rr]
  | .brset m mm rr => memBytes [0x12] [] [0x1E] [0x18, 0x1E] m.toMem ++ [mm, rr]
  | .bsr rr => [0x8D] ++ [rr]
  | .bvc rr => [0x28] ++ [rr]
  | .bvs rr => [0x29] ++ [rr]
  | .jmp m => memBytes [] [0x7E] [0x6E] [0x18, 0x6E] m.toMem
  | .jsr m => memBytes [0x9D] [0xBD] [0xAD] [0x18, 0xAD] m
  | .nop => [0x01]
  | .rts => [0x39]
  -- System (45_system.md)
  | .rti => [0x3B]
  | .stop => [0xCF]
  | .swi => [0x3F]
  | .wai => [0x3E]
  -- Omitted by the source (46_absent_from_source.md)
  | .test => [0x00]
  | .tst m => memBytes [] [0x7D] [0x6D] [0x18, 0x6D] m.toMem
  | .tsta => [0x4D]
  | .tstb => [0x5D]
  | .tsx => [0x30]
  | .tsy => [0x18, 0x30]
  | .txs => [0x35]

/-- The bytes of a table word. The table numbers a prebyte row as its match value reads, prebyte first in
the high byte (30_encoding.md R134); a one-byte row is its byte. A word whose high byte is no prebyte is
read with its first byte lowest. The bytes after it are zeros, up to the longest instruction (log 24). -/
def tableBytes (nbits w : Nat) : List Byte :=
  let byteAt := fun (k : Nat) => BitVec.ofNat 8 (if 8 * k < nbits then w >>> (8 * k) else 0)
  if nbits = 16 ∧ (prebytePage (byteAt 1)).isSome then [byteAt 1, byteAt 0, 0, 0, 0]
  else [byteAt 0, byteAt 1, byteAt 2, byteAt 3, byteAt 4]

/-- The instruction the decoder reads from a row's word (log 24). -/
def decodeTableWord (nbits w : Nat) : Option Instr :=
  match decode (tableBytes nbits w) with
  | .ok i _ => some i
  | .rejected _ => none

end Sys2Proof
end

