-- ==== Sys2Proof/Config.lean ====
section
/-! DEFINITION. What the spec leaves to the platform or to chance: the named parameters of 00_scope.md R7,
held as plain data in `State.params` (log 6), and the free values of 93_implementation_defined.md, opaque
constants applied to a counter of State (log 26). -/

namespace Sys2Proof

/-- What stands at an address (20_memory.md R72, R74, R83). -/
inductive MemKind
  | ram
  | rom
  | io
  | unmapped
  deriving DecidableEq, Repr

/-- One entry of the parameter MemMap: the addresses from `first` to `last`, both included. For an io region,
`readSensitive` says that a read changes the environment (20_memory.md R85) and `extraCycles` that the real CPU
makes bus cycles there which no rule lists (R85; 92_eei_decisions.md D19; log 10). -/
structure Region where
  first : Word
  last : Word
  kind : MemKind
  readSensitive : Bool
  extraCycles : Bool
  deriving DecidableEq, Repr

/-- The parameter IllegalOpcodePolicy (00_scope.md R7, 60_exceptions.md R503). -/
inductive IllegalPolicy
  | trap
  | fault
  deriving DecidableEq, Repr

/-- The mask class of an interrupt source: held off by CCR.X or by CCR.I (60_exceptions.md R506). -/
inductive MaskClass
  | classX
  | classI
  deriving DecidableEq, Repr

/-- The asynchronous interrupt sources of the vector table (60_exceptions.md R505), and any other a platform
adds. -/
inductive SourceName
  | xirq
  | irq
  | realTime
  | inputCapture1
  | inputCapture2
  | inputCapture3
  | outputCompare1
  | outputCompare2
  | outputCompare3
  | outputCompare4
  | outputCompare5
  | timerOverflow
  | pulseOverflow
  | pulseEdge
  | spi
  | sci
  | other (n : Nat)
  deriving DecidableEq, Repr

/-- An entry of the parameter IntSources (60_exceptions.md R507). -/
structure IntSource where
  name : SourceName
  vector : Word
  rank : Nat
  cls : MaskClass
  wakesStop : Bool
  deriving DecidableEq, Repr

/-- The named parameters of 00_scope.md R7 that are data. VEC_XIRQ and VEC_IRQ are the vector fields of the
entries `xirq` and `irq` of `intSources` (log 28). -/
structure Params where
  memMap : List Region
  vecReset : Word
  vecSwi : Word
  vecIllop : Word
  intSources : List IntSource
  testMode : Bool
  illegalPolicy : IllegalPolicy
  deriving DecidableEq, Repr

/-- The default IntSources (60_exceptions.md R507): XIRQ and IRQ, both pins. -/
def defaultSources : List IntSource :=
  [⟨.xirq, 0xFFF4, 0, .classX, true⟩, ⟨.irq, 0xFFF2, 1, .classI, true⟩]

/-- The sources a platform may add, with the conventional vectors of 60_exceptions.md R505 and the
conventional order of R509. They belong to on-chip peripherals (00_scope.md R5) and are not pins, so none ends
the stopped state (45_system.md R462). No default holds them. -/
def peripheralSources : List IntSource :=
  [⟨.realTime, 0xFFF0, 2, .classI, false⟩,
   ⟨.inputCapture1, 0xFFEE, 3, .classI, false⟩,
   ⟨.inputCapture2, 0xFFEC, 4, .classI, false⟩,
   ⟨.inputCapture3, 0xFFEA, 5, .classI, false⟩,
   ⟨.outputCompare1, 0xFFE8, 6, .classI, false⟩,
   ⟨.outputCompare2, 0xFFE6, 7, .classI, false⟩,
   ⟨.outputCompare3, 0xFFE4, 8, .classI, false⟩,
   ⟨.outputCompare4, 0xFFE2, 9, .classI, false⟩,
   ⟨.outputCompare5, 0xFFE0, 10, .classI, false⟩,
   ⟨.timerOverflow, 0xFFDE, 11, .classI, false⟩,
   ⟨.pulseOverflow, 0xFFDC, 12, .classI, false⟩,
   ⟨.pulseEdge, 0xFFDA, 13, .classI, false⟩,
   ⟨.spi, 0xFFD8, 14, .classI, false⟩,
   ⟨.sci, 0xFFD6, 15, .classI, false⟩]

/-- The defaults of 00_scope.md R7: all ram, the vectors of 60_exceptions.md R505, IRQ and XIRQ only, no
test mode, the trap. -/
def Params.default : Params :=
  { memMap := []
    vecReset := 0xFFFE
    vecSwi := 0xFFF6
    vecIllop := 0xFFF8
    intSources := defaultSources
    testMode := false
    illegalPolicy := .trap }

/-- What the environment asserts during one step: the RESET request and the set of interrupt requests
(10_state.md R52). -/
structure EnvInput where
  reset : Bool
  requests : List SourceName
  deriving DecidableEq, Repr

/-- One io access, as the environment sees it (20_memory.md R72, R74, R85). -/
inductive IoEvent
  | read (addr : Word) (v : Byte)
  | write (addr : Word) (v : Byte)
  deriving DecidableEq, Repr

/-- The byte at an address that no load and no store has given one: any value, fixed for the run
(70_reset_and_hazards.md R556 (a); 93_implementation_defined.md U6). Free value, log 1. -/
opaque Config.powerOnByte : Nat → Byte

/-- IoRead: the environment's answer to an io read (20_memory.md R72, R85). Free value, log 8. -/
opaque Config.ioRead : Nat → Word → Byte

/-- UnmappedRead: what a read of an unmapped address gives (20_memory.md R86). Free value, log 9. -/
opaque Config.unmappedRead : Nat → Byte

/-- FdivRemainder: D after a forced FDIV quotient (41_arithmetic.md R280). Free value, log 11. -/
opaque Config.fdivRemainder : Nat → Word

/-- IdivRemainder: D after IDIV by zero (41_arithmetic.md R281). Free value, log 11. -/
opaque Config.idivRemainder : Nat → Word

/-- DaaV: V after DAA (41_arithmetic.md R272). Free value, log 12. -/
opaque Config.daaV : Nat → Bool

/-- ResetUnknown for A (70_reset_and_hazards.md R551 (b)). Free value, log 4. -/
opaque Config.resetA : Nat → Byte

/-- ResetUnknown for B (70_reset_and_hazards.md R551 (b)). Free value, log 4. -/
opaque Config.resetB : Nat → Byte

/-- ResetUnknown for X (70_reset_and_hazards.md R551 (b)). Free value, log 4. -/
opaque Config.resetX : Nat → Word

/-- ResetUnknown for Y (70_reset_and_hazards.md R551 (b)). Free value, log 4. -/
opaque Config.resetY : Nat → Word

/-- ResetUnknown for SP (70_reset_and_hazards.md R551 (b)). Free value, log 4. -/
opaque Config.resetSp : Nat → Word

/-- ResetUnknown for CCR bits H, N, Z, V, C, at their places (70_reset_and_hazards.md R551 (b)). Free value,
log 4. -/
opaque Config.resetFlags : Nat → Byte

end Sys2Proof
end

