-- ==== Sys2Proof/Machine/State.lean ====
section
/-! DEFINITION. The state of the machine (10_state.md, 00_scope.md R7, R19), its stops, its causes of
exception, its named updates and its reset value. -/

namespace Sys2Proof.Machine

/-- Memory: (address, byte) pairs; Machine/Memory.lean gives its canonical form and its operations. -/
abbrev Memory := List Host.Cell

/-- The run state (10_state.md R51). -/
inductive RunState
  | running
  /-- After WAI, the context already stacked. -/
  | waiting
  /-- After STOP with S = 0. -/
  | stopped
  deriving DecidableEq, Repr

/-- The machine's state. D is the pair A:B and no field of its own (10_state.md R31). -/
structure State where
  /-- Accumulator A (10_state.md R30). -/
  a : Byte
  /-- Accumulator B (10_state.md R30). -/
  b : Byte
  /-- Index register X (10_state.md R32). -/
  x : Word
  /-- Index register Y (10_state.md R32). -/
  y : Word
  /-- Stack pointer: the next free byte (10_state.md R33, R34). -/
  sp : Word
  /-- Program counter (10_state.md R38). -/
  pc : Word
  /-- Condition code register, S X H I N Z V C from bit 7 to bit 0 (10_state.md R40). -/
  ccr : Byte
  /-- Run state (10_state.md R51). -/
  runState : RunState
  /-- One-instruction interrupt inhibit (10_state.md R53). -/
  inhibit : Bool
  /-- The environment's RESET request (10_state.md R52). -/
  resetReq : Bool
  /-- The environment's asserted interrupt requests (10_state.md R52). -/
  pending : List SourceName
  /-- What the environment asserts at the coming steps; the model's own field (log 5). -/
  inputs : List EnvInput
  /-- The 65 536 bytes (20_memory.md R70). -/
  mem : Memory
  /-- The io accesses made, newest first; the model's own field (log 8). -/
  ioLog : List IoEvent
  /-- How many free values have been drawn; the model's own field (log 26). -/
  draws : Nat
  /-- The named parameters (00_scope.md R7). -/
  params : Params
  deriving DecidableEq, Repr

/-- Why the machine stops with a fault. -/
inductive Fault
  /-- The model fault "illegal opcode at addr" of IllegalOpcodePolicy = fault (60_exceptions.md R503). Raised
  by the illegal-opcode path of a step and by TEST outside test mode. Safe: the hardware goes on through its
  trap. -/
  | illegalOpcode (addr : Word)
  deriving DecidableEq, Repr

/-- Why a step is refused. -/
inductive Refusal
  /-- An instruction with no meaning yet, by the mnemonic of the opcode table; raised by exec alone. Safe. -/
  | notModelled (mnemonic : String)
  /-- TEST executed in test mode: "it has no architectural result, and the model refuses it"
  (46_absent_from_source.md R480). Raised by TEST. Safe. -/
  | testExecuted
  /-- The parameter MemMap puts read-sensitive io where the real CPU makes bus cycles that no rule lists: "such
  io maps are refused" (20_memory.md R85; 93_implementation_defined.md U11). Raised by every step under such a
  map, before anything runs. Safe. -/
  | ioMapRefused
  deriving DecidableEq, Repr

/-- What enters an exception (60_exceptions.md R501, R507). -/
inductive Cause
  | swi
  | illegalOpcode
  | source (q : IntSource)
  deriving DecidableEq, Repr

/-- An 8-bit accumulator (10_state.md R30). -/
inductive Acc
  | a
  | b
  deriving DecidableEq, Repr

/-- A 16-bit register an instruction computes on: D, X, Y or SP (10_state.md R31 to R33). -/
inductive Reg16
  | d
  | x
  | y
  | sp
  deriving DecidableEq, Repr

/-! ## Named updates: each writes one field. -/

def State.setA (s : State) (v : Byte) : State := { s with a := v }
def State.setB (s : State) (v : Byte) : State := { s with b := v }
def State.setX (s : State) (v : Word) : State := { s with x := v }
def State.setY (s : State) (v : Word) : State := { s with y := v }
def State.setSp (s : State) (v : Word) : State := { s with sp := v }
def State.setPc (s : State) (v : Word) : State := { s with pc := v }
def State.setCcr (s : State) (v : Byte) : State := { s with ccr := v }
def State.setRunState (s : State) (v : RunState) : State := { s with runState := v }
def State.setInhibit (s : State) (v : Bool) : State := { s with inhibit := v }
def State.setResetReq (s : State) (v : Bool) : State := { s with resetReq := v }
def State.setPending (s : State) (v : List SourceName) : State := { s with pending := v }
def State.setInputs (s : State) (v : List EnvInput) : State := { s with inputs := v }
def State.setMem (s : State) (v : Memory) : State := { s with mem := v }
def State.setIoLog (s : State) (v : List IoEvent) : State := { s with ioLog := v }
def State.setDraws (s : State) (v : Nat) : State := { s with draws := v }

/-- The machine right after a power-on reset (10_state.md R56; 70_reset_and_hazards.md R550): S = X = I = 1,
running, not inhibited, the default parameters. A, B, X, Y, SP and H, N, Z, V, C have no reset value and
are zeros here (log 2). Nothing is listed in memory; PC holds the word at VEC_RESET, which is a draw like every
byte that no load gave (logs 1 and 3). The environment asserts nothing (log 5). -/
def State.reset : State :=
  { a := 0
    b := 0
    x := 0
    y := 0
    sp := 0
    pc := cat (Config.powerOnByte 0xFFFE) (Config.powerOnByte 0xFFFF)
    ccr := 0xD0
    runState := .running
    inhibit := false
    resetReq := false
    pending := []
    inputs := []
    mem := []
    ioLog := []
    draws := 0
    params := Params.default }

end Sys2Proof.Machine
end

