-- ==== Sys2Proof/Machine/Flags.lean ====
section
/-! DEFINITION. The CCR and every flag computation (00_scope.md R16, R17; 10_state.md R40 to R49), as
functions of the CCR and the operands. An operation gives its result and the new CCR. -/

namespace Sys2Proof.Machine

/-! ## The bits of the CCR (10_state.md R40) -/

def flagC (ccr : Byte) : Bool := bit ccr 0
def flagV (ccr : Byte) : Bool := bit ccr 1
def flagZ (ccr : Byte) : Bool := bit ccr 2
def flagN (ccr : Byte) : Bool := bit ccr 3
def flagI (ccr : Byte) : Bool := bit ccr 4
def flagH (ccr : Byte) : Bool := bit ccr 5
def flagX (ccr : Byte) : Bool := bit ccr 6
def flagS (ccr : Byte) : Bool := bit ccr 7

def putC (ccr : Byte) (on : Bool) : Byte := putBit ccr 0 on
def putV (ccr : Byte) (on : Bool) : Byte := putBit ccr 1 on
def putZ (ccr : Byte) (on : Bool) : Byte := putBit ccr 2 on
def putN (ccr : Byte) (on : Bool) : Byte := putBit ccr 3 on
def putI (ccr : Byte) (on : Bool) : Byte := putBit ccr 4 on
def putH (ccr : Byte) (on : Bool) : Byte := putBit ccr 5 on
def putX (ccr : Byte) (on : Bool) : Byte := putBit ccr 6 on
def putS (ccr : Byte) (on : Bool) : Byte := putBit ccr 7 on

/-- `NZ8(r)` (00_scope.md R16). -/
def nz8 (ccr r : Byte) : Byte := putZ (putN ccr (bit r 7)) (decide (r = 0))

/-- `NZ16(r)` (00_scope.md R16). -/
def nz16 (ccr : Byte) (r : Word) : Byte := putZ (putN ccr (r.getLsbD 15)) (decide (r = 0))

/-- N, Z from an 8-bit result, V and C as given, the rest unchanged. -/
def nzvc8 (ccr r : Byte) (v c : Bool) : Byte := putC (putV (nz8 ccr r) v) c

/-- N, Z from a 16-bit result, V and C as given, the rest unchanged. -/
def nzvc16 (ccr : Byte) (r : Word) (v c : Bool) : Byte := putC (putV (nz16 ccr r) v) c

/-! ## The arithmetic helpers (00_scope.md R17) -/

/-- What `add8` gives: the result, the half carry, the carry, the signed overflow. -/
structure Sum8 where
  r : Byte
  h : Bool
  cy : Bool
  v : Bool
  deriving DecidableEq, Repr

/-- What `sub8` gives: the result, the borrow, the signed overflow. -/
structure Diff8 where
  r : Byte
  bw : Bool
  v : Bool
  deriving DecidableEq, Repr

/-- What `add16` and `sub16` give: the result, the carry or borrow, the signed overflow. -/
structure Out16 where
  r : Word
  cy : Bool
  v : Bool
  deriving DecidableEq, Repr

/-- `add8(a, b, c)` (00_scope.md R17). -/
def add8 (a b : Byte) (c : Bool) : Sum8 :=
  let s := a.toNat + b.toNat + c.toNat
  let r := BitVec.ofNat 8 s
  { r := r
    h := decide ((a &&& 0x0F).toNat + (b &&& 0x0F).toNat + c.toNat > 0x0F)
    cy := decide (s > 0xFF)
    v := decide ((a ^^^ r) &&& (b ^^^ r) &&& 0x80 ≠ 0) }

/-- `sub8(a, b, c)` (00_scope.md R17): d = a - b - c in the integers. -/
def sub8 (a b : Byte) (c : Bool) : Diff8 :=
  let d := (a.toNat : Int) - b.toNat - c.toNat
  let r := BitVec.ofInt 8 d
  { r := r
    bw := decide (d < 0)
    v := decide ((a ^^^ b) &&& (a ^^^ r) &&& 0x80 ≠ 0) }

/-- `add16(a, b)` (00_scope.md R17). -/
def add16 (a b : Word) : Out16 :=
  let s := a.toNat + b.toNat
  let r := BitVec.ofNat 16 s
  { r := r
    cy := decide (s > 0xFFFF)
    v := decide ((a ^^^ r) &&& (b ^^^ r) &&& 0x8000 ≠ 0) }

/-- `sub16(a, b)` (00_scope.md R17). -/
def sub16 (a b : Word) : Out16 :=
  let d := (a.toNat : Int) - b.toNat
  let r := BitVec.ofInt 16 d
  { r := r
    cy := decide (d < 0)
    v := decide ((a ^^^ b) &&& (a ^^^ r) &&& 0x8000 ≠ 0) }

/-! ## Two-operand operations: CCR, register, operand to result and new CCR -/

/-- ABA, ADDA, ADDB (41_arithmetic.md R250, R255, R256). -/
def addOp (ccr r m : Byte) : Byte × Byte :=
  let o := add8 r m false
  (o.r, nzvc8 (putH ccr o.h) o.r o.v o.cy)

/-- ADCA, ADCB: C is an operand (41_arithmetic.md R253, R254). -/
def adcOp (ccr r m : Byte) : Byte × Byte :=
  let o := add8 r m (flagC ccr)
  (o.r, nzvc8 (putH ccr o.h) o.r o.v o.cy)

/-- SBA, SUBA, SUBB, and the compares CBA, CMPA, CMPB (41_arithmetic.md R258, R262, R292, R295). -/
def subOp (ccr r m : Byte) : Byte × Byte :=
  let o := sub8 r m false
  (o.r, nzvc8 ccr o.r o.v o.bw)

/-- SBCA, SBCB: C is an operand (41_arithmetic.md R293, R294). -/
def sbcOp (ccr r m : Byte) : Byte × Byte :=
  let o := sub8 r m (flagC ccr)
  (o.r, nzvc8 ccr o.r o.v o.bw)

/-- N and Z from an 8-bit result, V cleared: loads, stores, transfers and logic (10_state.md R49). -/
def moveFlags8 (ccr r : Byte) : Byte := putV (nz8 ccr r) false

/-- N and Z from a 16-bit result, V cleared (10_state.md R49). -/
def moveFlags16 (ccr : Byte) (r : Word) : Byte := putV (nz16 ccr r) false

/-- LDAA, LDAB (40_load_store_transfer.md R200, R201). -/
def loadOp (ccr _r m : Byte) : Byte × Byte := (m, moveFlags8 ccr m)

/-- ANDA, ANDB, BITA, BITB (42_logic_bit.md R330, R331, R333, R334). -/
def andOp (ccr r m : Byte) : Byte × Byte := (r &&& m, moveFlags8 ccr (r &&& m))

/-- EORA, EORB (42_logic_bit.md R342, R343). -/
def eorOp (ccr r m : Byte) : Byte × Byte := (r ^^^ m, moveFlags8 ccr (r ^^^ m))

/-- ORAA, ORAB (42_logic_bit.md R344, R345). -/
def orOp (ccr r m : Byte) : Byte × Byte := (r ||| m, moveFlags8 ccr (r ||| m))

/-- ADDD (41_arithmetic.md R257). -/
def add16Op (ccr : Byte) (r m : Word) : Word × Byte :=
  let o := add16 r m
  (o.r, nzvc16 ccr o.r o.v o.cy)

/-- SUBD and the compares CPD, CPX, CPY (41_arithmetic.md R264 to R266, R297). -/
def sub16Op (ccr : Byte) (r m : Word) : Word × Byte :=
  let o := sub16 r m
  (o.r, nzvc16 ccr o.r o.v o.cy)

/-- LDD, LDS, LDX, LDY (40_load_store_transfer.md R202 to R205). -/
def load16Op (ccr : Byte) (_r m : Word) : Word × Byte := (m, moveFlags16 ccr m)

/-! ## One-operand operations: CCR and operand to result and new CCR -/

/-- N and Z from the result, C the bit shifted out, V = N xor C with the new N and C
(43_shift_rotate.md R369 (d)). -/
def shiftFlags8 (ccr r : Byte) (out : Bool) : Byte := nzvc8 ccr r (bit r 7 ^^ out) out

/-- The same for a 16-bit result (43_shift_rotate.md R369 (d)). -/
def shiftFlags16 (ccr : Byte) (r : Word) (out : Bool) : Byte := nzvc16 ccr r (r.getLsbD 15 ^^ out) out

/-- ASL, LSL (43_shift_rotate.md R370). -/
def aslOp (ccr m : Byte) : Byte × Byte :=
  let r := m <<< 1
  (r, shiftFlags8 ccr r (bit m 7))

/-- ASR (43_shift_rotate.md R374). -/
def asrOp (ccr m : Byte) : Byte × Byte :=
  let r := (m >>> 1) ||| (m &&& 0x80)
  (r, shiftFlags8 ccr r (bit m 0))

/-- LSR (43_shift_rotate.md R379). -/
def lsrOp (ccr m : Byte) : Byte × Byte :=
  let r := m >>> 1
  (r, shiftFlags8 ccr r (bit m 0))

/-- ROL through carry (43_shift_rotate.md R383; 90_conflicts.md C5). -/
def rolOp (ccr m : Byte) : Byte × Byte :=
  let r := (m <<< 1) ||| (if flagC ccr then 1 else 0)
  (r, shiftFlags8 ccr r (bit m 7))

/-- ROR through carry (43_shift_rotate.md R386; 90_conflicts.md C5). -/
def rorOp (ccr m : Byte) : Byte × Byte :=
  let r := (m >>> 1) ||| (if flagC ccr then 0x80 else 0)
  (r, shiftFlags8 ccr r (bit m 0))

/-- ASLD, LSLD (43_shift_rotate.md R373). -/
def asl16Op (ccr : Byte) (m : Word) : Word × Byte :=
  let r := m <<< 1
  (r, shiftFlags16 ccr r (m.getLsbD 15))

/-- LSRD (43_shift_rotate.md R382). -/
def lsr16Op (ccr : Byte) (m : Word) : Word × Byte :=
  let r := m >>> 1
  (r, shiftFlags16 ccr r (m.getLsbD 0))

/-- CLR: the operand is discarded (41_arithmetic.md R259). -/
def clrOp (ccr _m : Byte) : Byte × Byte := (0, putC (putV (putZ (putN ccr false) true) false) false)

/-- COM (42_logic_bit.md R339). -/
def comOp (ccr m : Byte) : Byte × Byte := (~~~m, nzvc8 ccr (~~~m) false true)

/-- NEG (41_arithmetic.md R289). -/
def negOp (ccr m : Byte) : Byte × Byte :=
  let r := -m
  (r, nzvc8 ccr r (decide (r = 0x80)) (decide (r ≠ 0)))

/-- DEC: C unchanged (41_arithmetic.md R273). -/
def decOp (ccr m : Byte) : Byte × Byte :=
  let r := m - 1
  (r, putV (nz8 ccr r) (decide (m = 0x80)))

/-- INC: C unchanged (41_arithmetic.md R282). -/
def incOp (ccr m : Byte) : Byte × Byte :=
  let r := m + 1
  (r, putV (nz8 ccr r) (decide (m = 0x7F)))

/-- TST: V and C cleared (46_absent_from_source.md R481). -/
def tstFlags (ccr m : Byte) : Byte := nzvc8 ccr m false false

/-- BCLR with mask mm (42_logic_bit.md R332). -/
def bclrOp (mm ccr m : Byte) : Byte × Byte := (m &&& ~~~mm, moveFlags8 ccr (m &&& ~~~mm))

/-- BSET with mask mm (42_logic_bit.md R335). -/
def bsetOp (mm ccr m : Byte) : Byte × Byte := (m ||| mm, moveFlags8 ccr (m ||| mm))

/-! ## Multiply, divide, decimal adjust -/

/-- MUL: the product and the CCR, C = bit 7 of its low byte (41_arithmetic.md R288). -/
def mulOp (ccr a b : Byte) : Word × Byte :=
  let p := BitVec.ofNat 16 (a.toNat * b.toNat)
  (p, putC ccr (bit (lo p) 7))

/-- What a division gives: quotient, remainder (none where it is indeterminate) and CCR. -/
structure Division where
  quotient : Word
  remainder : Option Word
  ccr : Byte
  deriving DecidableEq, Repr

/-- FDIV of n by d (41_arithmetic.md R280). -/
def fdivOp (ccr : Byte) (n d : Word) : Division :=
  let q : Word := if d = 0 ∨ d ≤ n then 0xFFFF else BitVec.ofNat 16 (n.toNat * 65536 / d.toNat)
  { quotient := q
    remainder := if d = 0 ∨ d ≤ n then none else some (BitVec.ofNat 16 (n.toNat * 65536 % d.toNat))
    ccr := putC (putV (putZ ccr (decide (q = 0))) (decide (d ≤ n))) (decide (d = 0)) }

/-- IDIV of n by d (41_arithmetic.md R281; 90_conflicts.md C8). -/
def idivOp (ccr : Byte) (n d : Word) : Division :=
  let q : Word := if d = 0 then 0xFFFF else BitVec.ofNat 16 (n.toNat / d.toNat)
  { quotient := q
    remainder := if d = 0 then none else some (BitVec.ofNat 16 (n.toNat % d.toNat))
    ccr := putC (putV (putZ ccr (decide (q = 0))) false) (decide (d = 0)) }

/-- DAA, its V given as an argument since it is a free value (41_arithmetic.md R272). -/
def daaOp (ccr a : Byte) (v : Bool) : Byte × Byte :=
  let low := (a &&& 0x0F).toNat
  let high := (a >>> 4).toNat
  let lowfix := flagH ccr || decide (low > 9)
  let highfix := flagC ccr || decide (high > 9) || (decide (high ≥ 9) && decide (low > 9))
  let k : Byte := (if lowfix then 0x06 else 0) + (if highfix then 0x60 else 0)
  let r := a + k
  (r, nzvc8 ccr r v (flagC ccr || highfix))

/-- The CCR that TAP and RTI load: every bit of the byte, but X only where X was set
(40_load_store_transfer.md R221; 45_system.md R460; 10_state.md R47). -/
def loadCcr (old new : Byte) : Byte := putX new (flagX old && flagX new)

end Sys2Proof.Machine
end

