-- ==== Sys2Proof/Machine/Memory.lean ====
section
/-! DEFINITION. Memory as canonical data, and the access primitives (20_memory.md R70 to R90). -/

namespace Sys2Proof.Machine

/-- What an address with no entry reads as: a draw, the same at every read of the run
(70_reset_and_hazards.md R556 (a); 93_implementation_defined.md U6; log 1). -/
def Memory.unlisted (a : Nat) : Byte := Config.powerOnByte a

/-- The canonical form from an address up: addresses strictly rising below 65536 (20_memory.md R70). The entries
are the bytes that a load or a store gave (70_reset_and_hazards.md R556 (a)); an address with no entry has no
value in the list that an entry could repeat (log 1). -/
def Memory.wfFrom : Nat → Memory → Bool
  | _, [] => true
  | least, (a, _) :: rest =>
    decide (least ≤ a) && decide (a < 65536) && Memory.wfFrom (a + 1) rest

/-- The canonical form of memory, in which equal memories are equal lists. -/
def Memory.wf (m : Memory) : Bool := Memory.wfFrom 0 m

/-- The byte at an address. -/
def Memory.read : Memory → Nat → Byte
  | [], a => Memory.unlisted a
  | (k, v) :: rest, a => if a = k then v else if a < k then Memory.unlisted a else Memory.read rest a

/-- The byte at an address replaced. -/
def Memory.write : Memory → Nat → Byte → Memory
  | [], a, v => [(a, v)]
  | (k, w) :: rest, a, v =>
    if a < k then (a, v) :: (k, w) :: rest
    else if a = k then (a, v) :: rest
    else (k, w) :: Memory.write rest a v

/-- Whether a region of the memory map holds an address. -/
def regionHolds (r : Region) (a : Word) : Bool := decide (r.first ≤ a) && decide (a ≤ r.last)

/-- The parameter MemMap as a total function (20_memory.md R83): the first region that holds the address, else
ram (log 7). -/
def kindAt (p : Params) (a : Word) : MemKind :=
  match p.memMap.find? (regionHolds · a) with
  | some r => r.kind
  | none => .ram

/-- Whether a region is read-sensitive io where the real CPU makes bus cycles that no rule lists
(20_memory.md R85; log 10). -/
def regionRefused (r : Region) : Bool := decide (r.kind = .io) && r.readSensitive && r.extraCycles

/-- Whether the parameters hold a map that is refused: "such io maps are refused" (20_memory.md R85;
92_eei_decisions.md D19; 93_implementation_defined.md U11). -/
def mapRefused (p : Params) : Bool := p.memMap.any regionRefused

/-- The byte at an address, whatever its kind. -/
def State.byteAt (s : State) (a : Word) : Byte := s.mem.read a.toNat

/-- `MemRead(addr, 1)` (20_memory.md R72): the byte, and the state after the read. -/
def readByte (a : Word) (s : State) : Byte × State :=
  match kindAt s.params a with
  | .ram | .rom => (s.byteAt a, s)
  | .io =>
    let v := Config.ioRead s.draws a
    (v, (s.setDraws (s.draws + 1)).setIoLog (.read a v :: s.ioLog))
  | .unmapped => (Config.unmappedRead s.draws, s.setDraws (s.draws + 1))

/-- `MemWrite(addr, 1, v)` (20_memory.md R74). -/
def writeByte (a : Word) (v : Byte) (s : State) : State :=
  match kindAt s.params a with
  | .ram => s.setMem (s.mem.write a.toNat v)
  | .rom | .unmapped => s
  | .io => s.setIoLog (.write a v :: s.ioLog)

/-- `MemRead(addr, 2)` (20_memory.md R73): the high byte at addr, then the low byte at addr + 1 mod 65536. -/
def readWord (a : Word) (s : State) : Word × State :=
  let h := readByte a s
  let l := readByte (a + 1) h.2
  (cat h.1 l.1, l.2)

/-- `MemWrite(addr, 2, v)` (20_memory.md R75): hi(v) at addr, then lo(v) at addr + 1 mod 65536. -/
def writeWord (a : Word) (v : Word) (s : State) : State :=
  writeByte (a + 1) (lo v) (writeByte a (hi v) s)

end Sys2Proof.Machine
end

