-- ==== Sys2Proof/Machine/Operands.lean ====
section
/-! DEFINITION. Register views, effective addresses and operand access for every addressing mode
(30_encoding.md R120 to R127). -/

namespace Sys2Proof.Machine

/-- Reading D gives A : B (10_state.md R31). -/
def State.d (s : State) : Word := cat s.a s.b

/-- Writing D writes A and B together (10_state.md R31; 00_scope.md R11). -/
def State.setD (s : State) (v : Word) : State := (s.setA (hi v)).setB (lo v)

/-- The accumulator a mnemonic names (00_scope.md R11). -/
def getAcc : Acc → State → Byte
  | .a, s => s.a
  | .b, s => s.b

def setAcc : Acc → Byte → State → State
  | .a, v, s => s.setA v
  | .b, v, s => s.setB v

/-- The 16-bit register a mnemonic names. -/
def getReg16 : Reg16 → State → Word
  | .d, s => s.d
  | .x, s => s.x
  | .y, s => s.y
  | .sp, s => s.sp

def setReg16 : Reg16 → Word → State → State
  | .d, v, s => s.setD v
  | .x, v, s => s.setX v
  | .y, v, s => s.setY v
  | .sp, v, s => s.setSp v

/-- The effective address of a memory operand (30_encoding.md R122 to R124). -/
def effAddr : Mem → State → Word
  | .dir dd, _ => zext16 dd
  | .ext hhll, _ => hhll
  | .indx ff, s => s.x + zext16 ff
  | .indy ff, s => s.y + zext16 ff

/-- The 8-bit operand M (30_encoding.md R121, R127), and the state after reading it. -/
def readSrc8 : Src8 → State → Byte × State
  | .imm ii, s => (ii, s)
  | .mem m, s => readByte (effAddr m s) s

/-- The 16-bit operand M16 (30_encoding.md R121, R127), and the state after reading it. -/
def readSrc16 : Src16 → State → Word × State
  | .imm v, s => (v, s)
  | .mem m, s => readWord (effAddr m s) s

/-- `A <- op(A, M)` or `B <- op(B, M)`, with the CCR the operation gives. -/
def accOp (op : Byte → Byte → Byte → Byte × Byte) (k : Acc) (src : Src8) (s : State) : State :=
  let m := readSrc8 src s
  let o := op m.2.ccr (getAcc k m.2) m.1
  (setAcc k o.1 m.2).setCcr o.2

/-- As `accOp`, but "only the CCR is written" (compares and bit tests). -/
def accTest (op : Byte → Byte → Byte → Byte × Byte) (k : Acc) (src : Src8) (s : State) : State :=
  let m := readSrc8 src s
  m.2.setCcr (op m.2.ccr (getAcc k m.2) m.1).2

/-- `R <- op(R, M16)` for D, X, Y or SP, with the CCR the operation gives. -/
def wordOp (op : Byte → Word → Word → Word × Byte) (k : Reg16) (src : Src16) (s : State) : State :=
  let m := readSrc16 src s
  let o := op m.2.ccr (getReg16 k m.2) m.1
  (setReg16 k o.1 m.2).setCcr o.2

/-- As `wordOp`, but "only the CCR is written" (compares). -/
def wordTest (op : Byte → Word → Word → Word × Byte) (k : Reg16) (src : Src16) (s : State) : State :=
  let m := readSrc16 src s
  m.2.setCcr (op m.2.ccr (getReg16 k m.2) m.1).2

/-- A one-operand operation on an accumulator. -/
def accUnary (op : Byte → Byte → Byte × Byte) (k : Acc) (s : State) : State :=
  let o := op s.ccr (getAcc k s)
  (setAcc k o.1 s).setCcr o.2

/-- A one-operand operation on memory: exactly one read, then one write at the same address
(20_memory.md R76). -/
def memUnary (op : Byte → Byte → Byte × Byte) (m : Mem) (s : State) : State :=
  let ea := effAddr m s
  let v := readByte ea s
  let o := op v.2.ccr v.1
  writeByte ea o.1 (v.2.setCcr o.2)

/-- A store of an accumulator: one write, N and Z from it, V cleared (40_load_store_transfer.md R214). -/
def storeAcc (k : Acc) (m : Mem) (s : State) : State :=
  writeByte (effAddr m s) (getAcc k s) (s.setCcr (moveFlags8 s.ccr (getAcc k s)))

/-- A store of a 16-bit register (40_load_store_transfer.md R216). -/
def storeReg16 (k : Reg16) (m : Mem) (s : State) : State :=
  writeWord (effAddr m s) (getReg16 k s) (s.setCcr (moveFlags16 s.ccr (getReg16 k s)))

end Sys2Proof.Machine
end

