-- ==== Sys2Proof/Machine/Ops.lean ====
section
/-! DEFINITION. The stack (00_scope.md R14), taking an exception and returning from one
(60_exceptions.md R500 to R515; 45_system.md R460), branch and jump, and reset
(70_reset_and_hazards.md R550). -/

namespace Sys2Proof.Machine

/-! ## The stack -/

/-- `Push8(v)`: store at SP, then decrement (00_scope.md R14; 10_state.md R34). -/
def push8 (v : Byte) (s : State) : State :=
  let t := writeByte s.sp v s
  t.setSp (t.sp - 1)

/-- `Pull8()`: increment SP, then read at SP (00_scope.md R14). -/
def pull8 (s : State) : Byte × State := readByte (s.sp + 1) (s.setSp (s.sp + 1))

/-- `Push16(v)`: low byte first (00_scope.md R14; 10_state.md R37). -/
def push16 (v : Word) (s : State) : State := push8 (hi v) (push8 (lo v) s)

/-- `Pull16()`: high byte first (00_scope.md R14; 10_state.md R36, R37). -/
def pull16 (s : State) : Word × State :=
  let h := pull8 s
  let l := pull8 h.2
  (cat h.1 l.1, l.2)

/-! ## Taking an exception and returning from one -/

/-- The nine-byte context: return address, Y, X, A, B, CCR, in the order of the pushes
(60_exceptions.md R510). -/
def pushContext (ret : Word) (s : State) : State :=
  let s₁ := push16 ret s
  let s₂ := push16 s₁.y s₁
  let s₃ := push16 s₂.x s₂
  let s₄ := push8 s₃.a s₃
  let s₅ := push8 s₄.b s₄
  push8 s₅.ccr s₅

/-- The vector cell of a cause (60_exceptions.md R501, R505, R507). -/
def vectorOf : Cause → Params → Word
  | .swi, p => p.vecSwi
  | .illegalOpcode, p => p.vecIllop
  | .source q, _ => q.vector

/-- Whether an entry sets CCR.X: only the entry to XIRQ does (60_exceptions.md R506, R510; log 20). -/
def setsX : Cause → Bool
  | .source q => decide (q.name = .xirq)
  | .swi | .illegalOpcode => false

/-- The masks set and the vector read: the end of every entry, and all of the entry that leaves the waiting
state (60_exceptions.md R510, R515; 45_system.md R466). -/
def takeVector (c : Cause) (s : State) : State :=
  let s₁ := s.setCcr (putI s.ccr true)
  let s₂ := if setsX c then s₁.setCcr (putX s₁.ccr true) else s₁
  let v := readWord (vectorOf c s₂.params) s₂
  v.2.setPc v.1

/-- `enter Interrupt(vec)` with return address `ret` (60_exceptions.md R510): the one way an exception is
taken. -/
def enterInterrupt (c : Cause) (ret : Word) (s : State) : State := takeVector c (pushContext ret s)

/-- `raise IllegalOpcode(addr)`: the trap, or the model fault, as the policy says
(60_exceptions.md R503; 00_scope.md R15). -/
def raiseIllegal (addr : Word) (s : State) : Host.Outcome State Fault Refusal :=
  match s.params.illegalPolicy with
  | .trap => .next (enterInterrupt .illegalOpcode addr s)
  | .fault => .fault (.illegalOpcode addr)

/-- The return from an exception: nine pulls, CCR, B, A, X, Y, PC (45_system.md R460;
60_exceptions.md R512). -/
def returnFromInterrupt (s : State) : State :=
  let c := pull8 s
  let s₁ := c.2.setCcr (loadCcr c.2.ccr c.1)
  let b := pull8 s₁
  let s₂ := b.2.setB b.1
  let a := pull8 s₂
  let s₃ := a.2.setA a.1
  let x := pull16 s₃
  let s₄ := x.2.setX x.1
  let y := pull16 s₄
  let s₅ := y.2.setY y.1
  let p := pull16 s₅
  p.2.setPc p.1

/-! ## Branch and call -/

/-- The target of a relative branch from PCnext, which PC holds (44_branch_jump.md R411). -/
def branchTarget (rr : Byte) (s : State) : Word := s.pc + sext16 rr

/-- `if cond then PC <- target` (44_branch_jump.md R410). -/
def branchIf (cond : Bool) (rr : Byte) (s : State) : State :=
  if cond then s.setPc (branchTarget rr s) else s

/-- `Push16(PCnext); PC <- target` (44_branch_jump.md R433, R442). -/
def call (target : Word) (s : State) : State := (push16 s.pc s).setPc target

/-! ## The inhibit -/

/-- The CCR loaded by CLI or TAP: when I goes from 1 to 0 the one-instruction inhibit is set
(70_reset_and_hazards.md R560; 40_load_store_transfer.md R221; 42_logic_bit.md R337). -/
def setCcrInhibiting (new : Byte) (s : State) : State :=
  let t := s.setCcr new
  if flagI s.ccr && !flagI new then t.setInhibit true else t

/-! ## Reset -/

/-- The ten pieces of state reset does not set, drawn afresh (70_reset_and_hazards.md R551 (b); log 4). -/
def drawUnknown (s : State) : State :=
  let n := s.draws
  let flags := Config.resetFlags n
  let c := putC (putV (putZ (putN (putH s.ccr (flagH flags)) (flagN flags)) (flagZ flags)) (flagV flags)) (flagC flags)
  ((((((s.setA (Config.resetA n)).setB (Config.resetB n)).setX (Config.resetX n)).setY (Config.resetY n)).setSp
    (Config.resetSp n)).setCcr c).setDraws (n + 1)

/-- The reset sequence (70_reset_and_hazards.md R550). -/
def resetSequence (s : State) : State :=
  let s₁ := drawUnknown s
  let s₂ := s₁.setCcr (putI (putX (putS s₁.ccr true) true) true)
  let s₃ := (s₂.setRunState .running).setInhibit false
  let v := readWord s₃.params.vecReset s₃
  v.2.setPc v.1

end Sys2Proof.Machine
end

