-- ==== Sys2Proof/Machine/Fetch.lean ====
section
/-! DEFINITION. Fetching the instruction at PC (00_scope.md R13; 30_encoding.md R112): all of its bytes, in
ascending order, before any data access, each read with `MemRead`. -/

namespace Sys2Proof.Machine

/-- `Fetch8()` (00_scope.md R13). -/
def fetch8 (s : State) : Byte × State :=
  let v := readByte s.pc s
  (v.1, v.2.setPc (v.2.pc + 1))

/-- What a fetch gives: an instruction, PC at PCnext; or an illegal opcode. -/
inductive Fetched
  | instr (i : Instr) (s : State)
  | illegal (s : State)
  deriving DecidableEq, Repr

/-- The operand bytes of a cell of the opcode map (30_encoding.md R112). -/
def fetchOperands (t : Template) (s : State) : Fetched :=
  match t with
  | .none i => .instr i s
  | .one f =>
    let x := fetch8 s
    .instr (f x.1) x.2
  | .two f =>
    let x := fetch8 s
    let y := fetch8 x.2
    .instr (f x.1 y.1) y.2
  | .three f =>
    let x := fetch8 s
    let y := fetch8 x.2
    let z := fetch8 y.2
    .instr (f x.1 y.1 z.1) z.2

/-- An opcode byte already read, on a known page. -/
def fetchCell (p : Page) (op : Byte) (s : State) : Fetched :=
  match opcodeCell p op with
  | some t => fetchOperands t s
  | none => .illegal s

/-- The instruction at PC: prebyte if any, opcode, operands (30_encoding.md R112). -/
def fetchInstr (s : State) : Fetched :=
  let b0 := fetch8 s
  match prebytePage b0.1 with
  | none => fetchCell .p1 b0.1 b0.2
  | some p =>
    let op := fetch8 b0.2
    fetchCell p op.1 op.2

end Sys2Proof.Machine
end

