-- ==== Sys2Proof/Machine/Cycle.lean ====
section
/-! DEFINITION. One step of the CPU around the execution of an instruction (00_scope.md R20;
60_exceptions.md R506 to R514; 45_system.md R462, R466). -/

namespace Sys2Proof.Machine

/-! ## The environment's requests -/

/-- The environment's input for this step: the next of `inputs`; when there is none, its requests stay as
they are (10_state.md R52; 60_exceptions.md R508; log 5). -/
def sample (s : State) : State :=
  match s.inputs with
  | [] => s
  | e :: rest => ((s.setResetReq e.reset).setPending e.requests).setInputs rest

/-- The sources of IntSources that are requested (10_state.md R52). -/
def requested (s : State) : List IntSource :=
  s.params.intSources.filter fun q => s.pending.contains q.name

/-- Whether the CCR holds a source off (60_exceptions.md R506). -/
def isMasked (ccr : Byte) (q : IntSource) : Bool :=
  match q.cls with
  | .classX => flagX ccr
  | .classI => flagI ccr

/-- The requested sources that are not masked. -/
def unmasked (s : State) : List IntSource := (requested s).filter fun q => !isMasked s.ccr q

/-- Whether a source is served before another: class X before class I (60_exceptions.md R514), then the lower
rank (R509; log 19). -/
def precedes (p q : IntSource) : Bool :=
  match p.cls, q.cls with
  | .classX, .classI => true
  | .classI, .classX => false
  | .classX, .classX | .classI, .classI => decide (p.rank < q.rank)

/-- The source served of several: none precedes it; of equals, the first of the list
(60_exceptions.md R509; log 19). -/
def highest : List IntSource → Option IntSource
  | [] => none
  | q :: rest =>
    match highest rest with
    | none => some q
    | some r => if precedes r q then some r else some q

/-! ## The suspended states -/

/-- The XIRQ source, if it is requested. -/
def requestedXirq (s : State) : Option IntSource := (requested s).find? fun q => decide (q.name = .xirq)

/-- A step in the stopped state (45_system.md R462 (b) to (e)): a full entry, or a resumption after STOP, or
nothing. -/
def stoppedStep (s : State) : State :=
  match requestedXirq s with
  | some q =>
    if flagX s.ccr then s.setRunState .running
    else enterInterrupt (.source q) s.pc (s.setRunState .running)
  | none =>
    match highest ((unmasked s).filter (·.wakesStop)) with
    | some q => enterInterrupt (.source q) s.pc (s.setRunState .running)
    | none => s

/-- A step in the waiting state (45_system.md R466 (b), (c)): the context is stacked already. -/
def waitingStep (s : State) : State :=
  match highest (unmasked s) with
  | some q => takeVector (.source q) (s.setRunState .running)
  | none => s

/-! ## The running state -/

/-- The interrupt taken at this step, if any: step (3) of 00_scope.md R20, skipped while the inhibit is set
(70_reset_and_hazards.md R560). -/
def interruptNow (s : State) : Option IntSource :=
  if s.inhibit then none else highest (unmasked s)

/-- Step (4) of 00_scope.md R20: fetch, decode and execute one instruction. Executing an instruction ends the
inhibit unless it sets it again (70_reset_and_hazards.md R560); an illegal opcode is stacked with the address
of its first byte (60_exceptions.md R503). -/
def instructionStep (ex : Instr → State → Host.Outcome State Fault Refusal) (s : State) :
    Host.Outcome State Fault Refusal :=
  match fetchInstr s with
  | .instr i t => ex i (t.setInhibit false)
  | .illegal t => raiseIllegal s.pc (t.setInhibit false)

/-- A step once the environment's input is known, in the order of 00_scope.md R20. -/
def sampledStep (ex : Instr → State → Host.Outcome State Fault Refusal) (s : State) :
    Host.Outcome State Fault Refusal :=
  if s.resetReq then .next (resetSequence s)
  else
    match s.runState with
    | .stopped => .next (stoppedStep s)
    | .waiting => .next (waitingStep s)
    | .running =>
      match interruptNow s with
      | some q => .next (enterInterrupt (.source q) s.pc s)
      | none => instructionStep ex s

/-- One step: a refused map runs nothing (20_memory.md R85; log 10); else the environment's input is read, then
R20's order followed. -/
def cpuStep (ex : Instr → State → Host.Outcome State Fault Refusal) (s : State) :
    Host.Outcome State Fault Refusal :=
  if mapRefused s.params then .refused .ioMapRefused else sampledStep ex (sample s)

/-- Bytes stored at an address and the addresses after it, modulo 65536, whatever stands there. -/
def pokeBytes : Word → List Byte → State → State
  | _, [], s => s
  | a, v :: rest, s => pokeBytes (a + 1) rest (s.setMem (s.mem.write a.toNat v))

/-- Where a table word's bytes are loaded (log 3). -/
def loadAddress : Word := 0x0000

/-- A program loaded and started as 70_reset_and_hazards.md R556 (b) has it, "sets PC <- a": the table word's
bytes at the load address, PC there, running, nothing requested, so that the next step fetches them (logs 3
and 24). -/
def placeInstruction (nbits w : Nat) (s : State) : State :=
  pokeBytes loadAddress (tableBytes nbits w)
    (((((s.setPc loadAddress).setRunState .running).setResetReq false).setPending []).setInputs [])

end Sys2Proof.Machine
end

