-- ==== Sys2Proof/Machine/Arith.lean ====
section
/-! DEFINITION. Arithmetic, compares, clears, multiply, divide, decimal adjust (41_arithmetic.md R250 to R299).
Each meaning runs with PC at PCnext (00_scope.md R13). -/

namespace Sys2Proof.Machine

/-- The results of a division: X <- quotient, D <- remainder, or the free value given, which counts as drawn
(41_arithmetic.md R280, R281). -/
def divideInto (free : Word) (o : Division) (s : State) : State :=
  let t := (s.setX o.quotient).setCcr o.ccr
  match o.remainder with
  | some r => t.setD r
  | none => (t.setD free).setDraws (s.draws + 1)

/-- ABA (R250): A <- A + B; H, N, Z, V, C. -/
def execAba (s : State) : Host.Outcome State Fault Refusal :=
  .next (let o := addOp s.ccr s.a s.b; (s.setA o.1).setCcr o.2)

/-- ABX (R251): X <- X + B, B unsigned; no flag. -/
def execAbx (s : State) : Host.Outcome State Fault Refusal := .next (s.setX (s.x + zext16 s.b))

/-- ABY (R252): Y <- Y + B, B unsigned; no flag. -/
def execAby (s : State) : Host.Outcome State Fault Refusal := .next (s.setY (s.y + zext16 s.b))

/-- ADCA (R253): A <- A + M + C; H, N, Z, V, C. -/
def execAdca (src : Src8) (s : State) : Host.Outcome State Fault Refusal := .next (accOp adcOp .a src s)

/-- ADCB (R254): B <- B + M + C; H, N, Z, V, C. -/
def execAdcb (src : Src8) (s : State) : Host.Outcome State Fault Refusal := .next (accOp adcOp .b src s)

/-- ADDA (R255): A <- A + M; H, N, Z, V, C. -/
def execAdda (src : Src8) (s : State) : Host.Outcome State Fault Refusal := .next (accOp addOp .a src s)

/-- ADDB (R256): B <- B + M; H, N, Z, V, C. -/
def execAddb (src : Src8) (s : State) : Host.Outcome State Fault Refusal := .next (accOp addOp .b src s)

/-- ADDD (R257): D <- D + M16; N, Z, V, C; H unchanged. -/
def execAddd (src : Src16) (s : State) : Host.Outcome State Fault Refusal := .next (wordOp add16Op .d src s)

/-- CBA (R258): A - B; N, Z, V, C only; C = 1 exactly when A < B unsigned (90_conflicts.md C4). -/
def execCba (s : State) : Host.Outcome State Fault Refusal := .next (s.setCcr (subOp s.ccr s.a s.b).2)

/-- CLR (R259): The byte at EA becomes $00 after a discarded read; N = 0, Z = 1, V = 0, C = 0. -/
def execClr (m : MemNoDir) (s : State) : Host.Outcome State Fault Refusal :=
  .next (memUnary clrOp m.toMem s)

/-- CLRA (R260): A <- $00; N = 0, Z = 1, V = 0, C = 0. -/
def execClra (s : State) : Host.Outcome State Fault Refusal := .next (accUnary clrOp .a s)

/-- CLRB (R261): B <- $00; N = 0, Z = 1, V = 0, C = 0. -/
def execClrb (s : State) : Host.Outcome State Fault Refusal := .next (accUnary clrOp .b s)

/-- CMPA (R262): A - M; N, Z, V, C only. -/
def execCmpa (src : Src8) (s : State) : Host.Outcome State Fault Refusal := .next (accTest subOp .a src s)

/-- CMPB (R263): B - M; N, Z, V, C only. -/
def execCmpb (src : Src8) (s : State) : Host.Outcome State Fault Refusal := .next (accTest subOp .b src s)

/-- CPD (R264): D - M16; N, Z, V, C only. -/
def execCpd (src : Src16) (s : State) : Host.Outcome State Fault Refusal :=
  .next (wordTest sub16Op .d src s)

/-- CPX (R265): X - M16; N, Z, V, C only. -/
def execCpx (src : Src16) (s : State) : Host.Outcome State Fault Refusal :=
  .next (wordTest sub16Op .x src s)

/-- CPY (R266): Y - M16; N, Z, V, C only. -/
def execCpy (src : Src16) (s : State) : Host.Outcome State Fault Refusal :=
  .next (wordTest sub16Op .y src s)

/-- DAA (R272): decimal adjust of A; N, Z, C, and V a free value (log 12). -/
def execDaa (s : State) : Host.Outcome State Fault Refusal :=
  .next (let o := daaOp s.ccr s.a (Config.daaV s.draws); ((s.setA o.1).setCcr o.2).setDraws (s.draws + 1))

/-- DEC (R273): The byte at EA becomes m - 1; N, Z, V. -/
def execDec (m : MemNoDir) (s : State) : Host.Outcome State Fault Refusal :=
  .next (memUnary decOp m.toMem s)

/-- DECA (R274): A <- A - 1; N, Z, V. -/
def execDeca (s : State) : Host.Outcome State Fault Refusal := .next (accUnary decOp .a s)

/-- DECB (R275): B <- B - 1; N, Z, V. -/
def execDecb (s : State) : Host.Outcome State Fault Refusal := .next (accUnary decOp .b s)

/-- DES (R276): SP <- SP - 1; no flag. -/
def execDes (s : State) : Host.Outcome State Fault Refusal := .next (s.setSp (s.sp - 1))

/-- DEX (R277): X <- X - 1; Z only. -/
def execDex (s : State) : Host.Outcome State Fault Refusal :=
  .next ((s.setX (s.x - 1)).setCcr (putZ s.ccr (decide (s.x - 1 = 0))))

/-- DEY (R278): Y <- Y - 1; Z only. -/
def execDey (s : State) : Host.Outcome State Fault Refusal :=
  .next ((s.setY (s.y - 1)).setCcr (putZ s.ccr (decide (s.y - 1 = 0))))

/-- FDIV (R280): X <- D * 65536 / X, D <- the remainder, a free value where the quotient is forced (log 11);
Z, V, C. -/
def execFdiv (s : State) : Host.Outcome State Fault Refusal :=
  .next (divideInto (Config.fdivRemainder s.draws) (fdivOp s.ccr s.d s.x) s)

/-- IDIV (R281): X <- D / X, D <- the remainder, a free value on division by zero (log 11); Z, V = 0, C. -/
def execIdiv (s : State) : Host.Outcome State Fault Refusal :=
  .next (divideInto (Config.idivRemainder s.draws) (idivOp s.ccr s.d s.x) s)

/-- INC (R282): The byte at EA becomes m + 1; N, Z, V. -/
def execInc (m : MemNoDir) (s : State) : Host.Outcome State Fault Refusal :=
  .next (memUnary incOp m.toMem s)

/-- INCA (R283): A <- A + 1; N, Z, V. -/
def execInca (s : State) : Host.Outcome State Fault Refusal := .next (accUnary incOp .a s)

/-- INCB (R284): B <- B + 1; N, Z, V. -/
def execIncb (s : State) : Host.Outcome State Fault Refusal := .next (accUnary incOp .b s)

/-- INS (R285): SP <- SP + 1; no flag. -/
def execIns (s : State) : Host.Outcome State Fault Refusal := .next (s.setSp (s.sp + 1))

/-- INX (R286): X <- X + 1; Z only. -/
def execInx (s : State) : Host.Outcome State Fault Refusal :=
  .next ((s.setX (s.x + 1)).setCcr (putZ s.ccr (decide (s.x + 1 = 0))))

/-- INY (R287): Y <- Y + 1; Z only. -/
def execIny (s : State) : Host.Outcome State Fault Refusal :=
  .next ((s.setY (s.y + 1)).setCcr (putZ s.ccr (decide (s.y + 1 = 0))))

/-- MUL (R288): D <- A * B; C only. -/
def execMul (s : State) : Host.Outcome State Fault Refusal :=
  .next (let o := mulOp s.ccr s.a s.b; (s.setD o.1).setCcr o.2)

/-- NEG (R289): The byte at EA becomes 0 - m; N, Z, V, C. -/
def execNeg (m : MemNoDir) (s : State) : Host.Outcome State Fault Refusal :=
  .next (memUnary negOp m.toMem s)

/-- NEGA (R290): A <- 0 - A; N, Z, V, C. -/
def execNega (s : State) : Host.Outcome State Fault Refusal := .next (accUnary negOp .a s)

/-- NEGB (R291): B <- 0 - B; N, Z, V, C. -/
def execNegb (s : State) : Host.Outcome State Fault Refusal := .next (accUnary negOp .b s)

/-- SBA (R292): A <- A - B; N, Z, V, C. -/
def execSba (s : State) : Host.Outcome State Fault Refusal :=
  .next (let o := subOp s.ccr s.a s.b; (s.setA o.1).setCcr o.2)

/-- SBCA (R293): A <- A - M - C; N, Z, V, C. -/
def execSbca (src : Src8) (s : State) : Host.Outcome State Fault Refusal := .next (accOp sbcOp .a src s)

/-- SBCB (R294): B <- B - M - C; N, Z, V, C. -/
def execSbcb (src : Src8) (s : State) : Host.Outcome State Fault Refusal := .next (accOp sbcOp .b src s)

/-- SUBA (R295): A <- A - M; N, Z, V, C. -/
def execSuba (src : Src8) (s : State) : Host.Outcome State Fault Refusal := .next (accOp subOp .a src s)

/-- SUBB (R296): B <- B - M; N, Z, V, C. -/
def execSubb (src : Src8) (s : State) : Host.Outcome State Fault Refusal := .next (accOp subOp .b src s)

/-- SUBD (R297): D <- D - M16; N, Z, V, C. -/
def execSubd (src : Src16) (s : State) : Host.Outcome State Fault Refusal := .next (wordOp sub16Op .d src s)

end Sys2Proof.Machine
end

