-- ==== Sys2Proof/Machine/Branch.lean ====
section
/-! DEFINITION. Branches, jumps, calls, returns, NOP (44_branch_jump.md R410 to R444).
Each meaning runs with PC at PCnext (00_scope.md R13). -/

namespace Sys2Proof.Machine

/-- BCC (R412): branch if C = 0; no flag. -/
def execBcc (rr : Byte) (s : State) : Host.Outcome State Fault Refusal :=
  .next (branchIf (!flagC s.ccr) rr s)

/-- BCS (R413): branch if C = 1; no flag. -/
def execBcs (rr : Byte) (s : State) : Host.Outcome State Fault Refusal :=
  .next (branchIf (flagC s.ccr) rr s)

/-- BEQ (R414): branch if Z = 1; no flag. -/
def execBeq (rr : Byte) (s : State) : Host.Outcome State Fault Refusal :=
  .next (branchIf (flagZ s.ccr) rr s)

/-- BGE (R415): branch if N xor V = 0; no flag. -/
def execBge (rr : Byte) (s : State) : Host.Outcome State Fault Refusal :=
  .next (branchIf (!(flagN s.ccr ^^ flagV s.ccr)) rr s)

/-- BGT (R416): branch if Z or (N xor V) = 0; no flag. -/
def execBgt (rr : Byte) (s : State) : Host.Outcome State Fault Refusal :=
  .next (branchIf (!(flagZ s.ccr || (flagN s.ccr ^^ flagV s.ccr))) rr s)

/-- BHI (R417): branch if C or Z = 0; no flag. -/
def execBhi (rr : Byte) (s : State) : Host.Outcome State Fault Refusal :=
  .next (branchIf (!(flagC s.ccr || flagZ s.ccr)) rr s)

/-- BHS (R418): branch if C = 0, as BCC; no flag. -/
def execBhs (rr : Byte) (s : State) : Host.Outcome State Fault Refusal :=
  .next (branchIf (!flagC s.ccr) rr s)

/-- BLE (R419): branch if Z or (N xor V) = 1; no flag. -/
def execBle (rr : Byte) (s : State) : Host.Outcome State Fault Refusal :=
  .next (branchIf (flagZ s.ccr || (flagN s.ccr ^^ flagV s.ccr)) rr s)

/-- BLO (R420): branch if C = 1, as BCS; no flag. -/
def execBlo (rr : Byte) (s : State) : Host.Outcome State Fault Refusal :=
  .next (branchIf (flagC s.ccr) rr s)

/-- BLS (R421): branch if C or Z = 1; no flag. -/
def execBls (rr : Byte) (s : State) : Host.Outcome State Fault Refusal :=
  .next (branchIf (flagC s.ccr || flagZ s.ccr) rr s)

/-- BLT (R422): branch if N xor V = 1; no flag. -/
def execBlt (rr : Byte) (s : State) : Host.Outcome State Fault Refusal :=
  .next (branchIf (flagN s.ccr ^^ flagV s.ccr) rr s)

/-- BMI (R423): branch if N = 1; no flag. -/
def execBmi (rr : Byte) (s : State) : Host.Outcome State Fault Refusal :=
  .next (branchIf (flagN s.ccr) rr s)

/-- BNE (R424): branch if Z = 0; no flag. -/
def execBne (rr : Byte) (s : State) : Host.Outcome State Fault Refusal :=
  .next (branchIf (!flagZ s.ccr) rr s)

/-- BPL (R425): branch if N = 0; no flag. -/
def execBpl (rr : Byte) (s : State) : Host.Outcome State Fault Refusal :=
  .next (branchIf (!flagN s.ccr) rr s)

/-- BRA (R426): PC <- target; no flag. -/
def execBra (rr : Byte) (s : State) : Host.Outcome State Fault Refusal :=
  .next (s.setPc (branchTarget rr s))

/-- BRN (R427): nothing; the displacement is ignored. -/
def execBrn (_rr : Byte) (s : State) : Host.Outcome State Fault Refusal := .next s

/-- BRCLR (R431): branch if every bit of the byte at EA that mm selects is 0; no flag. -/
def execBrclr (m : MemBit) (mm rr : Byte) (s : State) : Host.Outcome State Fault Refusal :=
  .next (let v := readByte (effAddr m.toMem s) s; branchIf (decide (v.1 &&& mm = 0)) rr v.2)

/-- BRSET (R432): branch if every bit of the byte at EA that mm selects is 1; no flag. -/
def execBrset (m : MemBit) (mm rr : Byte) (s : State) : Host.Outcome State Fault Refusal :=
  .next (let v := readByte (effAddr m.toMem s) s; branchIf (decide (~~~v.1 &&& mm = 0)) rr v.2)

/-- BSR (R433): Push16(PCnext); PC <- target; no flag. -/
def execBsr (rr : Byte) (s : State) : Host.Outcome State Fault Refusal := .next (call (branchTarget rr s) s)

/-- BVC (R434): branch if V = 0; no flag. -/
def execBvc (rr : Byte) (s : State) : Host.Outcome State Fault Refusal :=
  .next (branchIf (!flagV s.ccr) rr s)

/-- BVS (R435): branch if V = 1; no flag. -/
def execBvs (rr : Byte) (s : State) : Host.Outcome State Fault Refusal :=
  .next (branchIf (flagV s.ccr) rr s)

/-- JMP (R441): PC <- EA; no flag. -/
def execJmp (m : MemNoDir) (s : State) : Host.Outcome State Fault Refusal :=
  .next (s.setPc (effAddr m.toMem s))

/-- JSR (R442): Push16(PCnext); PC <- EA; no flag. -/
def execJsr (m : Mem) (s : State) : Host.Outcome State Fault Refusal := .next (call (effAddr m s) s)

/-- NOP (R443): nothing. -/
def execNop (s : State) : Host.Outcome State Fault Refusal := .next s

/-- RTS (R444): PC <- Pull16(); no flag. -/
def execRts (s : State) : Host.Outcome State Fault Refusal := .next (let v := pull16 s; v.2.setPc v.1)

end Sys2Proof.Machine
end

