-- ==== Sys2Proof/Machine/LoadStore.lean ====
section
/-! DEFINITION. Loads, stores, stack and transfers (40_load_store_transfer.md R200 to R226).
Each meaning runs with PC at PCnext (00_scope.md R13). -/

namespace Sys2Proof.Machine

/-- LDAA (R200): A <- M; N, Z, V = 0. -/
def execLdaa (src : Src8) (s : State) : Host.Outcome State Fault Refusal := .next (accOp loadOp .a src s)

/-- LDAB (R201): B <- M; N, Z, V = 0. -/
def execLdab (src : Src8) (s : State) : Host.Outcome State Fault Refusal := .next (accOp loadOp .b src s)

/-- LDD (R202): D <- M16; N, Z, V = 0. -/
def execLdd (src : Src16) (s : State) : Host.Outcome State Fault Refusal := .next (wordOp load16Op .d src s)

/-- LDS (R203): SP <- M16; N, Z, V = 0. -/
def execLds (src : Src16) (s : State) : Host.Outcome State Fault Refusal :=
  .next (wordOp load16Op .sp src s)

/-- LDX (R204): X <- M16; N, Z, V = 0. -/
def execLdx (src : Src16) (s : State) : Host.Outcome State Fault Refusal := .next (wordOp load16Op .x src s)

/-- LDY (R205): Y <- M16; N, Z, V = 0. -/
def execLdy (src : Src16) (s : State) : Host.Outcome State Fault Refusal := .next (wordOp load16Op .y src s)

/-- PSHA (R206): Push8(A); no flag. -/
def execPsha (s : State) : Host.Outcome State Fault Refusal := .next (push8 s.a s)

/-- PSHB (R207): Push8(B); no flag. -/
def execPshb (s : State) : Host.Outcome State Fault Refusal := .next (push8 s.b s)

/-- PSHX (R208): Push16(X); no flag. -/
def execPshx (s : State) : Host.Outcome State Fault Refusal := .next (push16 s.x s)

/-- PSHY (R209): Push16(Y); no flag. -/
def execPshy (s : State) : Host.Outcome State Fault Refusal := .next (push16 s.y s)

/-- PULA (R210): A <- Pull8(); no flag. -/
def execPula (s : State) : Host.Outcome State Fault Refusal := .next (let v := pull8 s; v.2.setA v.1)

/-- PULB (R211): B <- Pull8(); no flag. -/
def execPulb (s : State) : Host.Outcome State Fault Refusal := .next (let v := pull8 s; v.2.setB v.1)

/-- PULX (R212): X <- Pull16(); no flag. -/
def execPulx (s : State) : Host.Outcome State Fault Refusal := .next (let v := pull16 s; v.2.setX v.1)

/-- PULY (R213): Y <- Pull16(); no flag. -/
def execPuly (s : State) : Host.Outcome State Fault Refusal := .next (let v := pull16 s; v.2.setY v.1)

/-- STAA (R214): MemWrite(EA, 1, A); N, Z, V = 0. -/
def execStaa (m : Mem) (s : State) : Host.Outcome State Fault Refusal := .next (storeAcc .a m s)

/-- STAB (R215): MemWrite(EA, 1, B); N, Z, V = 0. -/
def execStab (m : Mem) (s : State) : Host.Outcome State Fault Refusal := .next (storeAcc .b m s)

/-- STD (R216): MemWrite(EA, 2, D); N, Z, V = 0. -/
def execStd (m : Mem) (s : State) : Host.Outcome State Fault Refusal := .next (storeReg16 .d m s)

/-- STS (R217): MemWrite(EA, 2, SP); N, Z, V = 0. -/
def execSts (m : Mem) (s : State) : Host.Outcome State Fault Refusal := .next (storeReg16 .sp m s)

/-- STX (R218): MemWrite(EA, 2, X); N, Z, V = 0. -/
def execStx (m : Mem) (s : State) : Host.Outcome State Fault Refusal := .next (storeReg16 .x m s)

/-- STY (R219): MemWrite(EA, 2, Y); N, Z, V = 0. -/
def execSty (m : Mem) (s : State) : Host.Outcome State Fault Refusal := .next (storeReg16 .y m s)

/-- TAB (R220): B <- A; N, Z, V = 0. -/
def execTab (s : State) : Host.Outcome State Fault Refusal :=
  .next ((s.setB s.a).setCcr (moveFlags8 s.ccr s.a))

/-- TAP (R221): CCR <- A, X only from 1 to 0; the inhibit if I goes from 1 to 0. -/
def execTap (s : State) : Host.Outcome State Fault Refusal := .next (setCcrInhibiting (loadCcr s.ccr s.a) s)

/-- TBA (R222): A <- B; N, Z, V = 0. -/
def execTba (s : State) : Host.Outcome State Fault Refusal :=
  .next ((s.setA s.b).setCcr (moveFlags8 s.ccr s.b))

/-- TPA (R223): A <- CCR; no flag. -/
def execTpa (s : State) : Host.Outcome State Fault Refusal := .next (s.setA s.ccr)

/-- TYS (R224): SP <- Y - 1; no flag. -/
def execTys (s : State) : Host.Outcome State Fault Refusal := .next (s.setSp (s.y - 1))

/-- XGDX (R225): D and X exchanged; no flag. -/
def execXgdx (s : State) : Host.Outcome State Fault Refusal := .next ((s.setX s.d).setD s.x)

/-- XGDY (R226): D and Y exchanged; no flag. -/
def execXgdy (s : State) : Host.Outcome State Fault Refusal := .next ((s.setY s.d).setD s.y)

end Sys2Proof.Machine
end

