-- ==== Sys2Proof/Machine/Logic.lean ====
section
/-! DEFINITION. Logic, bit manipulation, flag instructions (42_logic_bit.md R330 to R348).
Each meaning runs with PC at PCnext (00_scope.md R13). -/

namespace Sys2Proof.Machine

/-- ANDA (R330): A <- A and M; N, Z, V = 0. -/
def execAnda (src : Src8) (s : State) : Host.Outcome State Fault Refusal := .next (accOp andOp .a src s)

/-- ANDB (R331): B <- B and M; N, Z, V = 0. -/
def execAndb (src : Src8) (s : State) : Host.Outcome State Fault Refusal := .next (accOp andOp .b src s)

/-- BCLR (R332): The byte at EA loses the bits of mm; N, Z, V = 0. -/
def execBclr (m : MemBit) (mm : Byte) (s : State) : Host.Outcome State Fault Refusal :=
  .next (memUnary (bclrOp mm) m.toMem s)

/-- BITA (R333): A and M; N, Z, V = 0 only. -/
def execBita (src : Src8) (s : State) : Host.Outcome State Fault Refusal := .next (accTest andOp .a src s)

/-- BITB (R334): B and M; N, Z, V = 0 only. -/
def execBitb (src : Src8) (s : State) : Host.Outcome State Fault Refusal := .next (accTest andOp .b src s)

/-- BSET (R335): The byte at EA gains the bits of mm; N, Z, V = 0. -/
def execBset (m : MemBit) (mm : Byte) (s : State) : Host.Outcome State Fault Refusal :=
  .next (memUnary (bsetOp mm) m.toMem s)

/-- CLC (R336): C <- 0. -/
def execClc (s : State) : Host.Outcome State Fault Refusal := .next (s.setCcr (putC s.ccr false))

/-- CLI (R337): I <- 0; the inhibit if I was 1. -/
def execCli (s : State) : Host.Outcome State Fault Refusal := .next (setCcrInhibiting (putI s.ccr false) s)

/-- CLV (R338): V <- 0. -/
def execClv (s : State) : Host.Outcome State Fault Refusal := .next (s.setCcr (putV s.ccr false))

/-- COM (R339): The byte at EA becomes not m; N, Z, V = 0, C = 1. -/
def execCom (m : MemNoDir) (s : State) : Host.Outcome State Fault Refusal :=
  .next (memUnary comOp m.toMem s)

/-- COMA (R340): A <- not A; N, Z, V = 0, C = 1. -/
def execComa (s : State) : Host.Outcome State Fault Refusal := .next (accUnary comOp .a s)

/-- COMB (R341): B <- not B; N, Z, V = 0, C = 1. -/
def execComb (s : State) : Host.Outcome State Fault Refusal := .next (accUnary comOp .b s)

/-- EORA (R342): A <- A xor M; N, Z, V = 0. -/
def execEora (src : Src8) (s : State) : Host.Outcome State Fault Refusal := .next (accOp eorOp .a src s)

/-- EORB (R343): B <- B xor M; N, Z, V = 0. -/
def execEorb (src : Src8) (s : State) : Host.Outcome State Fault Refusal := .next (accOp eorOp .b src s)

/-- ORAA (R344): A <- A or M; N, Z, V = 0. -/
def execOraa (src : Src8) (s : State) : Host.Outcome State Fault Refusal := .next (accOp orOp .a src s)

/-- ORAB (R345): B <- B or M; N, Z, V = 0. -/
def execOrab (src : Src8) (s : State) : Host.Outcome State Fault Refusal := .next (accOp orOp .b src s)

/-- SEC (R346): C <- 1. -/
def execSec (s : State) : Host.Outcome State Fault Refusal := .next (s.setCcr (putC s.ccr true))

/-- SEI (R347): I <- 1. -/
def execSei (s : State) : Host.Outcome State Fault Refusal := .next (s.setCcr (putI s.ccr true))

/-- SEV (R348): V <- 1. -/
def execSev (s : State) : Host.Outcome State Fault Refusal := .next (s.setCcr (putV s.ccr true))

end Sys2Proof.Machine
end

