-- ==== Sys2Proof/Machine/Omitted.lean ====
section
/-! DEFINITION. The instructions the source omits (46_absent_from_source.md R480 to R486).
Each meaning runs with PC at PCnext (00_scope.md R13). -/

namespace Sys2Proof.Machine

/-- TEST (R480): outside test mode an illegal opcode at its own address, which is PCnext - 1; in test mode
refused (log 14). -/
def execTest (s : State) : Host.Outcome State Fault Refusal :=
  if s.params.testMode then .refused .testExecuted else raiseIllegal (s.pc - 1) s

/-- TST (R481): N, Z of the byte at EA, V = 0, C = 0; nothing written. -/
def execTst (m : MemNoDir) (s : State) : Host.Outcome State Fault Refusal :=
  .next (let v := readByte (effAddr m.toMem s) s; v.2.setCcr (tstFlags v.2.ccr v.1))

/-- TSTA (R482): N, Z of A, V = 0, C = 0. -/
def execTsta (s : State) : Host.Outcome State Fault Refusal := .next (s.setCcr (tstFlags s.ccr s.a))

/-- TSTB (R483): N, Z of B, V = 0, C = 0. -/
def execTstb (s : State) : Host.Outcome State Fault Refusal := .next (s.setCcr (tstFlags s.ccr s.b))

/-- TSX (R484): X <- SP + 1; no flag. -/
def execTsx (s : State) : Host.Outcome State Fault Refusal := .next (s.setX (s.sp + 1))

/-- TSY (R485): Y <- SP + 1; no flag. -/
def execTsy (s : State) : Host.Outcome State Fault Refusal := .next (s.setY (s.sp + 1))

/-- TXS (R486): SP <- X - 1; no flag. -/
def execTxs (s : State) : Host.Outcome State Fault Refusal := .next (s.setSp (s.x - 1))

end Sys2Proof.Machine
end

