-- ==== Sys2Proof/Machine/Shift.lean ====
section
/-! DEFINITION. Shifts and rotates (43_shift_rotate.md R369 to R388).
Each meaning runs with PC at PCnext (00_scope.md R13). -/

namespace Sys2Proof.Machine

/-- ASL (R370): The byte at EA becomes shifted left; N, Z, V, C. -/
def execAsl (m : MemNoDir) (s : State) : Host.Outcome State Fault Refusal :=
  .next (memUnary aslOp m.toMem s)

/-- ASLA (R371): ASL of A by one bit; N, Z, V, C. -/
def execAsla (s : State) : Host.Outcome State Fault Refusal := .next (accUnary aslOp .a s)

/-- ASLB (R372): ASL of B by one bit; N, Z, V, C. -/
def execAslb (s : State) : Host.Outcome State Fault Refusal := .next (accUnary aslOp .b s)

/-- ASLD (R373): D shifted left; N, Z, V, C. -/
def execAsld (s : State) : Host.Outcome State Fault Refusal :=
  .next (let o := asl16Op s.ccr s.d; (s.setD o.1).setCcr o.2)

/-- ASR (R374): The byte at EA becomes shifted right, sign copied; N, Z, V, C. -/
def execAsr (m : MemNoDir) (s : State) : Host.Outcome State Fault Refusal :=
  .next (memUnary asrOp m.toMem s)

/-- ASRA (R375): ASR of A by one bit; N, Z, V, C. -/
def execAsra (s : State) : Host.Outcome State Fault Refusal := .next (accUnary asrOp .a s)

/-- ASRB (R376): ASR of B by one bit; N, Z, V, C. -/
def execAsrb (s : State) : Host.Outcome State Fault Refusal := .next (accUnary asrOp .b s)

/-- LSL (R377): The byte at EA becomes shifted left, as ASL; N, Z, V, C. -/
def execLsl (m : MemNoDir) (s : State) : Host.Outcome State Fault Refusal :=
  .next (memUnary aslOp m.toMem s)

/-- LSLA (R377): LSL of A by one bit; N, Z, V, C, as ASLA. -/
def execLsla (s : State) : Host.Outcome State Fault Refusal := .next (accUnary aslOp .a s)

/-- LSLB (R377): LSL of B by one bit; N, Z, V, C, as ASLB. -/
def execLslb (s : State) : Host.Outcome State Fault Refusal := .next (accUnary aslOp .b s)

/-- LSLD (R378): D shifted left, as ASLD; N, Z, V, C. -/
def execLsld (s : State) : Host.Outcome State Fault Refusal :=
  .next (let o := asl16Op s.ccr s.d; (s.setD o.1).setCcr o.2)

/-- LSR (R379): The byte at EA becomes shifted right; N = 0, Z, V, C. -/
def execLsr (m : MemNoDir) (s : State) : Host.Outcome State Fault Refusal :=
  .next (memUnary lsrOp m.toMem s)

/-- LSRA (R380): LSR of A by one bit; N, Z, V, C. -/
def execLsra (s : State) : Host.Outcome State Fault Refusal := .next (accUnary lsrOp .a s)

/-- LSRB (R381): LSR of B by one bit; N, Z, V, C. -/
def execLsrb (s : State) : Host.Outcome State Fault Refusal := .next (accUnary lsrOp .b s)

/-- LSRD (R382): D shifted right; N = 0, Z, V, C. -/
def execLsrd (s : State) : Host.Outcome State Fault Refusal :=
  .next (let o := lsr16Op s.ccr s.d; (s.setD o.1).setCcr o.2)

/-- ROL (R383): The byte at EA becomes rotated left through C; N, Z, V, C. -/
def execRol (m : MemNoDir) (s : State) : Host.Outcome State Fault Refusal :=
  .next (memUnary rolOp m.toMem s)

/-- ROLA (R384): ROL of A by one bit; N, Z, V, C. -/
def execRola (s : State) : Host.Outcome State Fault Refusal := .next (accUnary rolOp .a s)

/-- ROLB (R385): ROL of B by one bit; N, Z, V, C. -/
def execRolb (s : State) : Host.Outcome State Fault Refusal := .next (accUnary rolOp .b s)

/-- ROR (R386): The byte at EA becomes rotated right through C; N, Z, V, C. -/
def execRor (m : MemNoDir) (s : State) : Host.Outcome State Fault Refusal :=
  .next (memUnary rorOp m.toMem s)

/-- RORA (R387): ROR of A by one bit; N, Z, V, C. -/
def execRora (s : State) : Host.Outcome State Fault Refusal := .next (accUnary rorOp .a s)

/-- RORB (R388): ROR of B by one bit; N, Z, V, C. -/
def execRorb (s : State) : Host.Outcome State Fault Refusal := .next (accUnary rorOp .b s)

end Sys2Proof.Machine
end

