-- ==== Sys2Proof/Machine/System.lean ====
section
/-! DEFINITION. RTI, STOP, SWI, WAI (45_system.md R460 to R465).
Each meaning runs with PC at PCnext (00_scope.md R13). -/

namespace Sys2Proof.Machine

/-- RTI (R460): CCR, B, A, X, Y, PC pulled; CCR.X only from 1 to 0. -/
def execRti (s : State) : Host.Outcome State Fault Refusal := .next (returnFromInterrupt s)

/-- STOP (R461): nothing if S = 1, else the stopped state (90_conflicts.md C3). -/
def execStop (s : State) : Host.Outcome State Fault Refusal :=
  .next (if flagS s.ccr then s else s.setRunState .stopped)

/-- SWI (R463): the entry through VEC_SWI, PCnext stacked; I <- 1. -/
def execSwi (s : State) : Host.Outcome State Fault Refusal := .next (enterInterrupt .swi s.pc s)

/-- WAI (R465): the context stacked, then the waiting state; no flag. -/
def execWai (s : State) : Host.Outcome State Fault Refusal :=
  .next ((pushContext s.pc s).setRunState .waiting)

end Sys2Proof.Machine
end

