-- ==== Sys2Proof/Machine/Dispatch.lean ====
section
/-! DEFINITION. The meaning of every instruction, one arm per constructor. -/

namespace Sys2Proof.Machine

/-- The meaning of an instruction, in a state whose PC is PCnext (00_scope.md R13). -/
def exec (i : Instr) (s : State) : Host.Outcome State Fault Refusal :=
  match i with
  -- Loads, stores, stack, transfers (40_load_store_transfer.md)
  | .ldaa src => Sys2Proof.Machine.execLdaa src s
  | .ldab src => Sys2Proof.Machine.execLdab src s
  | .ldd src => Sys2Proof.Machine.execLdd src s
  | .lds src => Sys2Proof.Machine.execLds src s
  | .ldx src => Sys2Proof.Machine.execLdx src s
  | .ldy src => Sys2Proof.Machine.execLdy src s
  | .psha => Sys2Proof.Machine.execPsha s
  | .pshb => Sys2Proof.Machine.execPshb s
  | .pshx => Sys2Proof.Machine.execPshx s
  | .pshy => Sys2Proof.Machine.execPshy s
  | .pula => Sys2Proof.Machine.execPula s
  | .pulb => Sys2Proof.Machine.execPulb s
  | .pulx => Sys2Proof.Machine.execPulx s
  | .puly => Sys2Proof.Machine.execPuly s
  | .staa m => Sys2Proof.Machine.execStaa m s
  | .stab m => Sys2Proof.Machine.execStab m s
  | .std m => Sys2Proof.Machine.execStd m s
  | .sts m => Sys2Proof.Machine.execSts m s
  | .stx m => Sys2Proof.Machine.execStx m s
  | .sty m => Sys2Proof.Machine.execSty m s
  | .tab => Sys2Proof.Machine.execTab s
  | .tap => Sys2Proof.Machine.execTap s
  | .tba => Sys2Proof.Machine.execTba s
  | .tpa => Sys2Proof.Machine.execTpa s
  | .tys => Sys2Proof.Machine.execTys s
  | .xgdx => Sys2Proof.Machine.execXgdx s
  | .xgdy => Sys2Proof.Machine.execXgdy s
  -- Arithmetic (41_arithmetic.md)
  | .aba => Sys2Proof.Machine.execAba s
  | .abx => Sys2Proof.Machine.execAbx s
  | .aby => Sys2Proof.Machine.execAby s
  | .adca src => Sys2Proof.Machine.execAdca src s
  | .adcb src => Sys2Proof.Machine.execAdcb src s
  | .adda src => Sys2Proof.Machine.execAdda src s
  | .addb src => Sys2Proof.Machine.execAddb src s
  | .addd src => Sys2Proof.Machine.execAddd src s
  | .cba => Sys2Proof.Machine.execCba s
  | .clr m => Sys2Proof.Machine.execClr m s
  | .clra => Sys2Proof.Machine.execClra s
  | .clrb => Sys2Proof.Machine.execClrb s
  | .cmpa src => Sys2Proof.Machine.execCmpa src s
  | .cmpb src => Sys2Proof.Machine.execCmpb src s
  | .cpd src => Sys2Proof.Machine.execCpd src s
  | .cpx src => Sys2Proof.Machine.execCpx src s
  | .cpy src => Sys2Proof.Machine.execCpy src s
  | .daa => Sys2Proof.Machine.execDaa s
  | .dec m => Sys2Proof.Machine.execDec m s
  | .deca => Sys2Proof.Machine.execDeca s
  | .decb => Sys2Proof.Machine.execDecb s
  | .des => Sys2Proof.Machine.execDes s
  | .dex => Sys2Proof.Machine.execDex s
  | .dey => Sys2Proof.Machine.execDey s
  | .fdiv => Sys2Proof.Machine.execFdiv s
  | .idiv => Sys2Proof.Machine.execIdiv s
  | .inc m => Sys2Proof.Machine.execInc m s
  | .inca => Sys2Proof.Machine.execInca s
  | .incb => Sys2Proof.Machine.execIncb s
  | .ins => Sys2Proof.Machine.execIns s
  | .inx => Sys2Proof.Machine.execInx s
  | .iny => Sys2Proof.Machine.execIny s
  | .mul => Sys2Proof.Machine.execMul s
  | .neg m => Sys2Proof.Machine.execNeg m s
  | .nega => Sys2Proof.Machine.execNega s
  | .negb => Sys2Proof.Machine.execNegb s
  | .sba => Sys2Proof.Machine.execSba s
  | .sbca src => Sys2Proof.Machine.execSbca src s
  | .sbcb src => Sys2Proof.Machine.execSbcb src s
  | .suba src => Sys2Proof.Machine.execSuba src s
  | .subb src => Sys2Proof.Machine.execSubb src s
  | .subd src => Sys2Proof.Machine.execSubd src s
  -- Logic, bits, flags (42_logic_bit.md)
  | .anda src => Sys2Proof.Machine.execAnda src s
  | .andb src => Sys2Proof.Machine.execAndb src s
  | .bclr m mm => Sys2Proof.Machine.execBclr m mm s
  | .bita src => Sys2Proof.Machine.execBita src s
  | .bitb src => Sys2Proof.Machine.execBitb src s
  | .bset m mm => Sys2Proof.Machine.execBset m mm s
  | .clc => Sys2Proof.Machine.execClc s
  | .cli => Sys2Proof.Machine.execCli s
  | .clv => Sys2Proof.Machine.execClv s
  | .com m => Sys2Proof.Machine.execCom m s
  | .coma => Sys2Proof.Machine.execComa s
  | .comb => Sys2Proof.Machine.execComb s
  | .eora src => Sys2Proof.Machine.execEora src s
  | .eorb src => Sys2Proof.Machine.execEorb src s
  | .oraa src => Sys2Proof.Machine.execOraa src s
  | .orab src => Sys2Proof.Machine.execOrab src s
  | .sec => Sys2Proof.Machine.execSec s
  | .sei => Sys2Proof.Machine.execSei s
  | .sev => Sys2Proof.Machine.execSev s
  -- Shifts and rotates (43_shift_rotate.md)
  | .asl m => Sys2Proof.Machine.execAsl m s
  | .asla => Sys2Proof.Machine.execAsla s
  | .aslb => Sys2Proof.Machine.execAslb s
  | .asld => Sys2Proof.Machine.execAsld s
  | .asr m => Sys2Proof.Machine.execAsr m s
  | .asra => Sys2Proof.Machine.execAsra s
  | .asrb => Sys2Proof.Machine.execAsrb s
  | .lsl m => Sys2Proof.Machine.execLsl m s
  | .lsla => Sys2Proof.Machine.execLsla s
  | .lslb => Sys2Proof.Machine.execLslb s
  | .lsld => Sys2Proof.Machine.execLsld s
  | .lsr m => Sys2Proof.Machine.execLsr m s
  | .lsra => Sys2Proof.Machine.execLsra s
  | .lsrb => Sys2Proof.Machine.execLsrb s
  | .lsrd => Sys2Proof.Machine.execLsrd s
  | .rol m => Sys2Proof.Machine.execRol m s
  | .rola => Sys2Proof.Machine.execRola s
  | .rolb => Sys2Proof.Machine.execRolb s
  | .ror m => Sys2Proof.Machine.execRor m s
  | .rora => Sys2Proof.Machine.execRora s
  | .rorb => Sys2Proof.Machine.execRorb s
  -- Branches, jumps, calls (44_branch_jump.md)
  | .bcc rr => Sys2Proof.Machine.execBcc rr s
  | .bcs rr => Sys2Proof.Machine.execBcs rr s
  | .beq rr => Sys2Proof.Machine.execBeq rr s
  | .bge rr => Sys2Proof.Machine.execBge rr s
  | .bgt rr => Sys2Proof.Machine.execBgt rr s
  | .bhi rr => Sys2Proof.Machine.execBhi rr s
  | .bhs rr => Sys2Proof.Machine.execBhs rr s
  | .ble rr => Sys2Proof.Machine.execBle rr s
  | .blo rr => Sys2Proof.Machine.execBlo rr s
  | .bls rr => Sys2Proof.Machine.execBls rr s
  | .blt rr => Sys2Proof.Machine.execBlt rr s
  | .bmi rr => Sys2Proof.Machine.execBmi rr s
  | .bne rr => Sys2Proof.Machine.execBne rr s
  | .bpl rr => Sys2Proof.Machine.execBpl rr s
  | .bra rr => Sys2Proof.Machine.execBra rr s
  | .brn rr => Sys2Proof.Machine.execBrn rr s
  | .brclr m mm rr => Sys2Proof.Machine.execBrclr m mm rr s
  | .brset m mm rr => Sys2Proof.Machine.execBrset m mm rr s
  | .bsr rr => Sys2Proof.Machine.execBsr rr s
  | .bvc rr => Sys2Proof.Machine.execBvc rr s
  | .bvs rr => Sys2Proof.Machine.execBvs rr s
  | .jmp m => Sys2Proof.Machine.execJmp m s
  | .jsr m => Sys2Proof.Machine.execJsr m s
  | .nop => Sys2Proof.Machine.execNop s
  | .rts => Sys2Proof.Machine.execRts s
  -- System (45_system.md)
  | .rti => Sys2Proof.Machine.execRti s
  | .stop => Sys2Proof.Machine.execStop s
  | .swi => Sys2Proof.Machine.execSwi s
  | .wai => Sys2Proof.Machine.execWai s
  -- Omitted by the source (46_absent_from_source.md)
  | .test => Sys2Proof.Machine.execTest s
  | .tst m => Sys2Proof.Machine.execTst m s
  | .tsta => Sys2Proof.Machine.execTsta s
  | .tstb => Sys2Proof.Machine.execTstb s
  | .tsx => Sys2Proof.Machine.execTsx s
  | .tsy => Sys2Proof.Machine.execTsy s
  | .txs => Sys2Proof.Machine.execTxs s

end Sys2Proof.Machine
end

