-- ==== Sys2Proof/Machine/Step.lean ====
section
/-! DEFINITION. The step of the machine (00_scope.md R20); its parts stand in Machine/Cycle.lean. -/

namespace Sys2Proof.Machine

/-- One step of the CPU (00_scope.md R20). -/
def step (s : State) : Host.Outcome State Fault Refusal := cpuStep exec s

/-- A state with a table word's instruction where the next step fetches (logs 3 and 24). -/
def State.withFetchWord (s : State) (nbits w : Nat) : State := placeInstruction nbits w s

end Sys2Proof.Machine
end

