-- ==== Sys2Proof/Safety.lean ====
section
/-! DEFINITION. The invariant of the machine, and what a safe run is. -/

namespace Sys2Proof.Safety

open Sys2Proof.Machine

/-- The invariant every step keeps: memory is in its canonical form (20_memory.md R70), and the inhibit is set
only while instructions execute, with I clear (10_state.md R53; 70_reset_and_hazards.md R560). -/
def Inv (s : State) : Prop :=
  s.mem.wf = true ∧ (s.inhibit = true → s.runState = .running ∧ flagI s.ccr = false)

/-- A run that neither faults nor is refused, however long. -/
def Safe (s : State) : Prop := ∀ k : Nat, ∃ t : State, Host.Core.run core k s = .next t

/-- A state that a step leaves as it is: the end of a run as 70_reset_and_hazards.md R557 (c) and (d) detect
it. -/
def FixedPoint (s : State) : Prop := step s = .next s

end Sys2Proof.Safety
end

