-- ==== Sys2Proof/Vocabulary.lean ====
section
/-! DEFINITION. The words the statements are written in: the parts of the state an instruction may write, what
is kept, what is stored, and the arithmetic of the rules in unsigned and signed integers. None of it is used by
the machine. -/

namespace Sys2Proof.Vocabulary

open Sys2Proof.Machine

/-! ## What is kept -/

/-- The parts of the state an instruction may write, memory apart (10_state.md R49, R51, R53, R55). D is A and B
(R31). -/
inductive Part
  | a
  | b
  | x
  | y
  | sp
  | pc
  | flagS
  | flagX
  | flagH
  | flagI
  | flagN
  | flagZ
  | flagV
  | flagC
  | runState
  | inhibit
  deriving DecidableEq, Repr

/-- What a part holds, as a number. -/
def Part.value : Part → State → Nat
  | .a, s => s.a.toNat
  | .b, s => s.b.toNat
  | .x, s => s.x.toNat
  | .y, s => s.y.toNat
  | .sp, s => s.sp.toNat
  | .pc, s => s.pc.toNat
  | .flagS, s => (Machine.flagS s.ccr).toNat
  | .flagX, s => (Machine.flagX s.ccr).toNat
  | .flagH, s => (Machine.flagH s.ccr).toNat
  | .flagI, s => (Machine.flagI s.ccr).toNat
  | .flagN, s => (Machine.flagN s.ccr).toNat
  | .flagZ, s => (Machine.flagZ s.ccr).toNat
  | .flagV, s => (Machine.flagV s.ccr).toNat
  | .flagC, s => (Machine.flagC s.ccr).toNat
  | .runState, s =>
    match s.runState with
    | .running => 0
    | .waiting => 1
    | .stopped => 2
  | .inhibit, s => s.inhibit.toNat

/-- Every part but those listed is kept, and so are the environment's requests and the parameters. -/
def KeepsBut (written : List Part) (s t : State) : Prop :=
  (∀ p : Part, p ∉ written → p.value t = p.value s) ∧
    t.resetReq = s.resetReq ∧ t.pending = s.pending ∧ t.inputs = s.inputs ∧ t.params = s.params

/-! ## What is stored -/

/-- The byte at an address after some byte writes, the newest first: a write takes effect in ram only
(20_memory.md R74). -/
def afterWrites (s : State) : List (Word × Byte) → Word → Byte
  | [], w => s.byteAt w
  | (a, v) :: older, w => if w = a ∧ kindAt s.params a = .ram then v else afterWrites s older w

/-- The io log after some byte writes, the newest first: a write at an io address is handed to the environment
(20_memory.md R74). -/
def logAfterWrites (s : State) : List (Word × Byte) → List IoEvent
  | [] => s.ioLog
  | (a, v) :: older =>
    if kindAt s.params a = .io then .write a v :: logAfterWrites s older else logAfterWrites s older

/-- From s, exactly these byte writes were made, the newest first, and no byte was read: every other byte of
memory is as it was. -/
def Wrote (writes : List (Word × Byte)) (s t : State) : Prop :=
  (∀ w : Word, t.byteAt w = afterWrites s writes w) ∧ t.ioLog = logAfterWrites s writes ∧ t.draws = s.draws

/-- Every byte of memory is as it was and no io access was made. -/
def SameMemory (s t : State) : Prop := (∀ w : Word, t.byteAt w = s.byteAt w) ∧ t.ioLog = s.ioLog

/-- A byte that a read gives back and that a read leaves alone: ram or rom (20_memory.md R72). -/
def Plain (s : State) (a : Word) : Prop := kindAt s.params a = .ram ∨ kindAt s.params a = .rom

/-- n byte reads at ascending addresses, modulo 65536 (20_memory.md R71): the bytes, and the state after. -/
def readRun : Nat → Word → State → List Byte × State
  | 0, _, s => ([], s)
  | n + 1, a, s =>
    let v := readByte a s
    let r := readRun n (a + 1) v.2
    (v.1 :: r.1, r.2)

/-- The two byte writes of a 16-bit store at an address, the newest first (20_memory.md R75). -/
def wordWrites (a v : Word) : List (Word × Byte) := [(a + 1, lo v), (a, hi v)]

/-- The two byte writes of a 16-bit push, the newest first (10_state.md R37). -/
def pushWrites (s : State) (v : Word) : List (Word × Byte) := [(s.sp - 1, hi v), (s.sp, lo v)]

/-- The nine byte writes of a stacked context, the newest first (60_exceptions.md R510). -/
def contextWrites (ret : Word) (s : State) : List (Word × Byte) :=
  [(s.sp - 8, s.ccr), (s.sp - 7, s.b), (s.sp - 6, s.a), (s.sp - 5, hi s.x), (s.sp - 4, lo s.x),
   (s.sp - 3, hi s.y), (s.sp - 2, lo s.y), (s.sp - 1, hi ret), (s.sp, lo ret)]

/-! ## Flags and arithmetic -/

/-- `NZ8(r)` (00_scope.md R16). -/
def NZ8Of (r : Byte) (t : State) : Prop := flagN t.ccr = bit r 7 ∧ flagZ t.ccr = decide (r = 0)

/-- `NZ16(r)` (00_scope.md R16). -/
def NZ16Of (r : Word) (t : State) : Prop := flagN t.ccr = r.getLsbD 15 ∧ flagZ t.ccr = decide (r = 0)

/-- `NZ8(r); CCR.V <- 0`. -/
def Moved8 (r : Byte) (t : State) : Prop := NZ8Of r t ∧ flagV t.ccr = false

/-- `NZ16(r); CCR.V <- 0`. -/
def Moved16 (r : Word) (t : State) : Prop := NZ16Of r t ∧ flagV t.ccr = false

/-- An integer that 8 bits cannot hold as a signed number (00_scope.md R17). -/
def overflows8 (i : Int) : Bool := decide (i < -128 ∨ 127 < i)

/-- An integer that 16 bits cannot hold as a signed number (00_scope.md R17). -/
def overflows16 (i : Int) : Bool := decide (i < -32768 ∨ 32767 < i)

/-- r and the flags H, N, Z, V, C are those of the 8-bit sum a + m + c (00_scope.md R17). -/
def Summed8 (a m : Byte) (c : Bool) (r : Byte) (t : State) : Prop :=
  r.toNat = (a.toNat + m.toNat + c.toNat) % 256 ∧ NZ8Of r t ∧
    flagC t.ccr = decide (255 < a.toNat + m.toNat + c.toNat) ∧
    flagH t.ccr = decide (15 < a.toNat % 16 + m.toNat % 16 + c.toNat) ∧
    flagV t.ccr = overflows8 (a.toInt + m.toInt + c.toNat)

/-- r and the flags N, Z, V, C are those of the 8-bit difference a - m - c (00_scope.md R17). -/
def Subtracted8 (a m : Byte) (c : Bool) (r : Byte) (t : State) : Prop :=
  (r.toNat : Int) = ((a.toNat : Int) - m.toNat - c.toNat) % 256 ∧ NZ8Of r t ∧
    flagC t.ccr = decide (a.toNat < m.toNat + c.toNat) ∧
    flagV t.ccr = overflows8 (a.toInt - m.toInt - c.toNat)

/-- r and the flags N, Z, V, C are those of the 16-bit sum a + m (00_scope.md R17). -/
def Summed16 (a m r : Word) (t : State) : Prop :=
  r.toNat = (a.toNat + m.toNat) % 65536 ∧ NZ16Of r t ∧
    flagC t.ccr = decide (65535 < a.toNat + m.toNat) ∧ flagV t.ccr = overflows16 (a.toInt + m.toInt)

/-- r and the flags N, Z, V, C are those of the 16-bit difference a - m (00_scope.md R17). -/
def Subtracted16 (a m r : Word) (t : State) : Prop :=
  (r.toNat : Int) = ((a.toNat : Int) - m.toNat) % 65536 ∧ NZ16Of r t ∧
    flagC t.ccr = decide (a.toNat < m.toNat) ∧ flagV t.ccr = overflows16 (a.toInt - m.toInt)

/-- r is m moved one place left, `new` entering bit 0; N, Z, C and V = N xor C (43_shift_rotate.md R369). -/
def MovedLeft8 (m : Byte) (new : Bool) (r : Byte) (t : State) : Prop :=
  (∀ i, i < 8 → bit r i = if i = 0 then new else bit m (i - 1)) ∧ NZ8Of r t ∧
    flagC t.ccr = bit m 7 ∧ flagV t.ccr = (flagN t.ccr ^^ flagC t.ccr)

/-- r is m moved one place right, `new` entering bit 7; N, Z, C and V = N xor C (43_shift_rotate.md R369). -/
def MovedRight8 (m : Byte) (new : Bool) (r : Byte) (t : State) : Prop :=
  (∀ i, i < 8 → bit r i = if i = 7 then new else bit m (i + 1)) ∧ NZ8Of r t ∧
    flagC t.ccr = bit m 0 ∧ flagV t.ccr = (flagN t.ccr ^^ flagC t.ccr)

/-- r is m moved one place left, a 0 entering; N, Z, C and V = N xor C (43_shift_rotate.md R369). -/
def MovedLeft16 (m r : Word) (t : State) : Prop :=
  (∀ i, i < 16 → r.getLsbD i = if i = 0 then false else m.getLsbD (i - 1)) ∧ NZ16Of r t ∧
    flagC t.ccr = m.getLsbD 15 ∧ flagV t.ccr = (flagN t.ccr ^^ flagC t.ccr)

/-- r is m moved one place right, a 0 entering; N, Z, C and V = N xor C (43_shift_rotate.md R369). -/
def MovedRight16 (m r : Word) (t : State) : Prop :=
  (∀ i, i < 16 → r.getLsbD i = if i = 15 then false else m.getLsbD (i + 1)) ∧ NZ16Of r t ∧
    flagC t.ccr = m.getLsbD 0 ∧ flagV t.ccr = (flagN t.ccr ^^ flagC t.ccr)

/-- The target of a relative branch from `next`: the displacement is a signed byte (44_branch_jump.md R411). -/
def IsTarget (next : Word) (rr : Byte) (target : Word) : Prop :=
  (target.toNat : Int) = ((next.toNat : Int) + rr.toInt) % 65536

/-- A branch on a condition: PC becomes the target or stays, nothing else changes (44_branch_jump.md R410). -/
def BranchesIf (cond : Bool) (rr : Byte) (s t : State) : Prop :=
  (if cond then IsTarget s.pc rr t.pc else t.pc = s.pc) ∧ KeepsBut [.pc] s t ∧ Wrote [] s t

/-- Packed decimal: the byte of two decimal digits (41_arithmetic.md R272). -/
def bcd (n : Nat) : Byte := BitVec.ofNat 8 (n / 10 * 16 + n % 10)

/-- A relative branch taken when the condition holds, and then to its target (44_branch_jump.md R410, R411). -/
def TakenWhen (i : Instr) (cond : Bool) (rr : Byte) (t : State) : Prop :=
  exec i t = .next (if cond then t.setPc (t.pc + rr.signExtend 16) else t)

/-- What the ten comparison branches do after an 8-bit compare of r with m (41_arithmetic.md R299 (c)). -/
def BranchesAsCompared8 (r m : Byte) (t : State) : Prop :=
  ∀ rr : Byte,
    TakenWhen (.beq rr) (decide (r = m)) rr t ∧ TakenWhen (.bne rr) (decide (r ≠ m)) rr t ∧
    TakenWhen (.blo rr) (decide (r.toNat < m.toNat)) rr t ∧
    TakenWhen (.bhs rr) (decide (m.toNat ≤ r.toNat)) rr t ∧
    TakenWhen (.bhi rr) (decide (m.toNat < r.toNat)) rr t ∧
    TakenWhen (.bls rr) (decide (r.toNat ≤ m.toNat)) rr t ∧
    TakenWhen (.blt rr) (decide (r.toInt < m.toInt)) rr t ∧
    TakenWhen (.bge rr) (decide (m.toInt ≤ r.toInt)) rr t ∧
    TakenWhen (.bgt rr) (decide (m.toInt < r.toInt)) rr t ∧
    TakenWhen (.ble rr) (decide (r.toInt ≤ m.toInt)) rr t

/-- The same after a 16-bit compare (41_arithmetic.md R299 (c)). -/
def BranchesAsCompared16 (r m : Word) (t : State) : Prop :=
  ∀ rr : Byte,
    TakenWhen (.beq rr) (decide (r = m)) rr t ∧ TakenWhen (.bne rr) (decide (r ≠ m)) rr t ∧
    TakenWhen (.blo rr) (decide (r.toNat < m.toNat)) rr t ∧
    TakenWhen (.bhs rr) (decide (m.toNat ≤ r.toNat)) rr t ∧
    TakenWhen (.bhi rr) (decide (m.toNat < r.toNat)) rr t ∧
    TakenWhen (.bls rr) (decide (r.toNat ≤ m.toNat)) rr t ∧
    TakenWhen (.blt rr) (decide (r.toInt < m.toInt)) rr t ∧
    TakenWhen (.bge rr) (decide (m.toInt ≤ r.toInt)) rr t ∧
    TakenWhen (.bgt rr) (decide (m.toInt < r.toInt)) rr t ∧
    TakenWhen (.ble rr) (decide (r.toInt ≤ m.toInt)) rr t

/-! ## Operands -/

/-- M: the 8-bit operand (40_load_store_transfer.md, conventions; 30_encoding.md R121, R127). -/
def operand8 (src : Src8) (s : State) : Byte := (readSrc8 src s).1

/-- M16: the 16-bit operand. -/
def operand16 (src : Src16) (s : State) : Word := (readSrc16 src s).1

/-- The state after M is read. -/
def afterOperand8 (src : Src8) (s : State) : State := (readSrc8 src s).2

/-- The state after M16 is read. -/
def afterOperand16 (src : Src16) (s : State) : State := (readSrc16 src s).2

/-! ## Exceptions -/

/-- p is s with the nine-byte context stacked (60_exceptions.md R510, the pushes). -/
def Stacked (ret : Word) (s p : State) : Prop :=
  p.sp = s.sp - 9 ∧ KeepsBut [.sp] s p ∧ Wrote (contextWrites ret s) s p

/-- t is p with I set, X set if the vector is XIRQ's, and PC read from the vector (60_exceptions.md R510, the
end). -/
def VectorTaken (vec : Word) (xirq : Bool) (p t : State) : Prop :=
  flagI t.ccr = true ∧ flagX t.ccr = (flagX p.ccr || xirq) ∧ t.pc = (readWord vec p).1 ∧
    KeepsBut [.flagI, .flagX, .pc] p t ∧ Wrote [] (readWord vec p).2 t

/-- t is s after an interrupt entry with return address `ret` (60_exceptions.md R510). -/
def Entered (vec : Word) (xirq : Bool) (ret : Word) (s t : State) : Prop :=
  ∃ p : State, Stacked ret s p ∧ VectorTaken vec xirq p t

/-- Whether a source is XIRQ (60_exceptions.md R510). -/
def isXirq (q : IntSource) : Bool := decide (q.name = .xirq)

/-- A source of IntSources that is requested and that the CCR does not hold off (60_exceptions.md R506,
R508). -/
def Deliverable (s : State) (q : IntSource) : Prop :=
  q ∈ s.params.intSources ∧ q.name ∈ s.pending ∧
    (q.cls = .classX → flagX s.ccr = false) ∧ (q.cls = .classI → flagI s.ccr = false)

/-- A source of some is served first: class X before class I (60_exceptions.md R514), then the lowest rank
(R509; log 19). -/
def First (among : IntSource → Prop) (q : IntSource) : Prop :=
  among q ∧ ∀ r, among r → (q.cls = .classX ∧ r.cls = .classI) ∨ (q.cls = r.cls ∧ q.rank ≤ r.rank)

/-- What the environment asserts at this step leaves everything else as it is (10_state.md R52). -/
def Sampled (s u : State) : Prop :=
  (∀ p : Part, p.value u = p.value s) ∧ u.params = s.params ∧ Wrote [] s u

/-! ## Encodings -/

/-- Any bytes that begin so are this instruction, and the bytes after it are left over. -/
def Decodes (bytes : List Byte) (i : Instr) : Prop := ∀ rest : List Byte, decode (bytes ++ rest) = .ok i rest

/-- The five forms of an instruction on an 8-bit source, by the bytes before the operand (30_encoding.md
R114). -/
def Src8Forms (imm dir ext indx indy : List Byte) (f : Src8 → Instr) : Prop :=
  (∀ ii : Byte, Decodes (imm ++ [ii]) (f (.imm ii))) ∧
    (∀ dd : Byte, Decodes (dir ++ [dd]) (f (.mem (.dir dd)))) ∧
    (∀ hh ll : Byte, Decodes (ext ++ [hh, ll]) (f (.mem (.ext (cat hh ll))))) ∧
    (∀ ff : Byte, Decodes (indx ++ [ff]) (f (.mem (.indx ff)))) ∧
    ∀ ff : Byte, Decodes (indy ++ [ff]) (f (.mem (.indy ff)))

/-- The five forms of an instruction on a 16-bit source. -/
def Src16Forms (imm dir ext indx indy : List Byte) (f : Src16 → Instr) : Prop :=
  (∀ jj kk : Byte, Decodes (imm ++ [jj, kk]) (f (.imm (cat jj kk)))) ∧
    (∀ dd : Byte, Decodes (dir ++ [dd]) (f (.mem (.dir dd)))) ∧
    (∀ hh ll : Byte, Decodes (ext ++ [hh, ll]) (f (.mem (.ext (cat hh ll))))) ∧
    (∀ ff : Byte, Decodes (indx ++ [ff]) (f (.mem (.indx ff)))) ∧
    ∀ ff : Byte, Decodes (indy ++ [ff]) (f (.mem (.indy ff)))

/-- The four forms of a store and of JSR. -/
def MemForms (dir ext indx indy : List Byte) (f : Mem → Instr) : Prop :=
  (∀ dd : Byte, Decodes (dir ++ [dd]) (f (.dir dd))) ∧
    (∀ hh ll : Byte, Decodes (ext ++ [hh, ll]) (f (.ext (cat hh ll)))) ∧
    (∀ ff : Byte, Decodes (indx ++ [ff]) (f (.indx ff))) ∧
    ∀ ff : Byte, Decodes (indy ++ [ff]) (f (.indy ff))

/-- The three forms of a read-modify-write instruction, CLR, TST and JMP. -/
def NoDirForms (ext indx indy : List Byte) (f : MemNoDir → Instr) : Prop :=
  (∀ hh ll : Byte, Decodes (ext ++ [hh, ll]) (f (.ext (cat hh ll)))) ∧
    (∀ ff : Byte, Decodes (indx ++ [ff]) (f (.indx ff))) ∧
    ∀ ff : Byte, Decodes (indy ++ [ff]) (f (.indy ff))

/-- The three forms of BSET and BCLR: address byte, then mask (30_encoding.md R126). -/
def MaskForms (dir indx indy : List Byte) (f : MemBit → Byte → Instr) : Prop :=
  (∀ dd mm : Byte, Decodes (dir ++ [dd, mm]) (f (.dir dd) mm)) ∧
    (∀ ff mm : Byte, Decodes (indx ++ [ff, mm]) (f (.indx ff) mm)) ∧
    ∀ ff mm : Byte, Decodes (indy ++ [ff, mm]) (f (.indy ff) mm)

/-- The three forms of BRSET and BRCLR: address byte, mask, displacement (30_encoding.md R126). -/
def MaskRelForms (dir indx indy : List Byte) (f : MemBit → Byte → Byte → Instr) : Prop :=
  (∀ dd mm rr : Byte, Decodes (dir ++ [dd, mm, rr]) (f (.dir dd) mm rr)) ∧
    (∀ ff mm rr : Byte, Decodes (indx ++ [ff, mm, rr]) (f (.indx ff) mm rr)) ∧
    ∀ ff mm rr : Byte, Decodes (indy ++ [ff, mm, rr]) (f (.indy ff) mm rr)

/-- The one form of a relative branch (30_encoding.md R125). -/
def RelForm (op : Byte) (f : Byte → Instr) : Prop := ∀ rr : Byte, Decodes [op, rr] (f rr)

/-! ## The summary tables of the spec, over all instructions -/

/-- The registers and flags an instruction may write: 10_state.md R49 and R55, with TEST as the trap it is
(46_absent_from_source.md R480), the run state by WAI and STOP (R51) and the inhibit by CLI and TAP (R53). PC is
listed where the instruction itself writes it (R38); its advance is made before the instruction executes
(00_scope.md R13). -/
def writtenParts : Instr → List Part
  | .ldaa _ | .tba | .deca | .inca | .anda _ | .eora _ | .oraa _ => [.a, .flagN, .flagZ, .flagV]
  | .ldab _ | .tab | .decb | .incb | .andb _ | .eorb _ | .orab _ => [.b, .flagN, .flagZ, .flagV]
  | .ldd _ => [.a, .b, .flagN, .flagZ, .flagV]
  | .lds _ => [.sp, .flagN, .flagZ, .flagV]
  | .ldx _ => [.x, .flagN, .flagZ, .flagV]
  | .ldy _ => [.y, .flagN, .flagZ, .flagV]
  | .psha | .pshb | .pshx | .pshy | .tys | .des | .ins | .txs => [.sp]
  | .pula => [.a, .sp]
  | .pulb => [.b, .sp]
  | .pulx => [.x, .sp]
  | .puly => [.y, .sp]
  | .staa _ | .stab _ | .std _ | .sts _ | .stx _ | .sty _ | .dec _ | .inc _ | .bclr _ _ | .bita _
  | .bitb _ | .bset _ _ => [.flagN, .flagZ, .flagV]
  | .tap => [.flagS, .flagX, .flagH, .flagI, .flagN, .flagZ, .flagV, .flagC, .inhibit]
  | .tpa => [.a]
  | .xgdx => [.a, .b, .x]
  | .xgdy => [.a, .b, .y]
  | .aba | .adca _ | .adda _ => [.a, .flagH, .flagN, .flagZ, .flagV, .flagC]
  | .abx | .tsx => [.x]
  | .aby | .tsy => [.y]
  | .adcb _ | .addb _ => [.b, .flagH, .flagN, .flagZ, .flagV, .flagC]
  | .addd _ | .subd _ | .asld | .lsld | .lsrd => [.a, .b, .flagN, .flagZ, .flagV, .flagC]
  | .cba | .clr _ | .cmpa _ | .cmpb _ | .cpd _ | .cpx _ | .cpy _ | .neg _ | .com _ | .asl _ | .asr _
  | .lsl _ | .lsr _ | .rol _ | .ror _ | .tst _ | .tsta | .tstb => [.flagN, .flagZ, .flagV, .flagC]
  | .clra | .daa | .nega | .sba | .sbca _ | .suba _ | .coma | .asla | .asra | .lsla | .lsra | .rola
  | .rora => [.a, .flagN, .flagZ, .flagV, .flagC]
  | .clrb | .negb | .sbcb _ | .subb _ | .comb | .aslb | .asrb | .lslb | .lsrb | .rolb | .rorb =>
    [.b, .flagN, .flagZ, .flagV, .flagC]
  | .dex | .inx => [.x, .flagZ]
  | .dey | .iny => [.y, .flagZ]
  | .fdiv | .idiv => [.a, .b, .x, .flagZ, .flagV, .flagC]
  | .mul => [.a, .b, .flagC]
  | .clc | .sec => [.flagC]
  | .cli => [.flagI, .inhibit]
  | .clv | .sev => [.flagV]
  | .sei => [.flagI]
  | .bcc _ | .bcs _ | .beq _ | .bge _ | .bgt _ | .bhi _ | .bhs _ | .ble _ | .blo _ | .bls _ | .blt _
  | .bmi _ | .bne _ | .bpl _ | .bra _ | .brclr _ _ _ | .brset _ _ _ | .bvc _ | .bvs _ | .jmp _ => [.pc]
  | .brn _ | .nop => []
  | .bsr _ | .jsr _ | .rts => [.sp, .pc]
  | .rti => [.a, .b, .x, .y, .sp, .pc, .flagS, .flagX, .flagH, .flagI, .flagN, .flagZ, .flagV, .flagC]
  | .stop => [.runState]
  | .swi | .test => [.sp, .pc, .flagI]
  | .wai => [.sp, .runState]

/-- The addresses whose bytes an instruction stores to: 20_memory.md R81. -/
def storedAt : Instr → State → List Word
  | .ldaa _, _ | .ldab _, _ | .ldd _, _ | .lds _, _ | .ldx _, _ | .ldy _, _ | .pula, _ | .pulb, _
  | .pulx, _ | .puly, _ | .tab, _ | .tap, _ | .tba, _ | .tpa, _ | .tys, _ | .xgdx, _ | .xgdy, _ | .aba, _
  | .abx, _ | .aby, _ | .adca _, _ | .adcb _, _ | .adda _, _ | .addb _, _ | .addd _, _ | .cba, _
  | .clra, _ | .clrb, _ | .cmpa _, _ | .cmpb _, _ | .cpd _, _ | .cpx _, _ | .cpy _, _ | .daa, _ | .deca, _
  | .decb, _ | .des, _ | .dex, _ | .dey, _ | .fdiv, _ | .idiv, _ | .inca, _ | .incb, _ | .ins, _ | .inx, _
  | .iny, _ | .mul, _ | .nega, _ | .negb, _ | .sba, _ | .sbca _, _ | .sbcb _, _ | .suba _, _ | .subb _, _
  | .subd _, _ | .anda _, _ | .andb _, _ | .bita _, _ | .bitb _, _ | .clc, _ | .cli, _ | .clv, _
  | .coma, _ | .comb, _ | .eora _, _ | .eorb _, _ | .oraa _, _ | .orab _, _ | .sec, _ | .sei, _ | .sev, _
  | .asla, _ | .aslb, _ | .asld, _ | .asra, _ | .asrb, _ | .lsla, _ | .lslb, _ | .lsld, _ | .lsra, _
  | .lsrb, _ | .lsrd, _ | .rola, _ | .rolb, _ | .rora, _ | .rorb, _ | .bcc _, _ | .bcs _, _ | .beq _, _
  | .bge _, _ | .bgt _, _ | .bhi _, _ | .bhs _, _ | .ble _, _ | .blo _, _ | .bls _, _ | .blt _, _
  | .bmi _, _ | .bne _, _ | .bpl _, _ | .bra _, _ | .brn _, _ | .brclr _ _ _, _ | .brset _ _ _, _
  | .bvc _, _ | .bvs _, _ | .jmp _, _ | .nop, _ | .rts, _ | .rti, _ | .stop, _ | .tst _, _ | .tsta, _
  | .tstb, _ | .tsx, _ | .tsy, _ | .txs, _ => []
  | .psha, s | .pshb, s => [s.sp]
  | .pshx, s | .pshy, s | .bsr _, s | .jsr _, s => [s.sp, s.sp - 1]
  | .staa m, s | .stab m, s => [effAddr m s]
  | .std m, s | .sts m, s | .stx m, s | .sty m, s => [effAddr m s, effAddr m s + 1]
  | .clr m, s | .dec m, s | .inc m, s | .neg m, s | .com m, s | .asl m, s | .asr m, s | .lsl m, s
  | .lsr m, s | .rol m, s | .ror m, s => [effAddr m.toMem s]
  | .bclr m _, s | .bset m _, s => [effAddr m.toMem s]
  | .swi, s | .wai, s | .test, s =>
    [s.sp, s.sp - 1, s.sp - 2, s.sp - 3, s.sp - 4, s.sp - 5, s.sp - 6, s.sp - 7, s.sp - 8]

end Sys2Proof.Vocabulary
end

