-- ==== Sys2Proof/Certificates/Slice0/Obligations.lean ====
section
/-! DEFINITION. The statements for the provers, in the words of Sys2Proof/Vocabulary.lean. Each docstring names
the rules of spec/ it formalises. -/

open Sys2Proof Sys2Proof.Machine Sys2Proof.Vocabulary Sys2Proof.Safety

/-! ## Decoding and encoding -/

/-- Decode and encode agree: the bytes of a well-formed instruction, whatever follows them, decode to it and
leave what follows (30_encoding.md R110 to R114). -/
def Obligations.DecodeOfEncode : Prop :=
  ∀ (i : Instr) (rest : List Byte), WellFormed i = true → decode (encode i ++ rest) = .ok i rest

/-- Bytes that decode are the encoding of the well-formed instruction they decode to, with what is left over:
no two byte sequences of one instruction, no byte dropped (30_encoding.md R112, R134). -/
def Obligations.EncodeOfDecode : Prop :=
  ∀ (bytes rest : List Byte) (i : Instr), decode bytes = .ok i rest →
    bytes = encode i ++ rest ∧ WellFormed i = true

/-- The undefined cells of the opcode map, page by page: the twenty opcodes of page 1 and every second byte that
pages 2, 3 and 4 do not list decode to no instruction; every other opcode does not do so
(30_encoding.md R131 to R133, R140). -/
def Obligations.UndefinedOpcodes : Prop :=
  (∀ (b : Byte) (rest : List Byte), b ≠ 0x18 → b ≠ 0x1A → b ≠ 0xCD →
    (decode (b :: rest) = .rejected (.illegalOpcode .p1 b) ↔
      b ∈ ([0x41, 0x42, 0x45, 0x4B, 0x4E, 0x51, 0x52, 0x55, 0x5B, 0x5E, 0x61, 0x62, 0x65, 0x6B, 0x71, 0x72,
        0x75, 0x7B, 0x87, 0xC7] : List Byte))) ∧
  (∀ (b : Byte) (rest : List Byte),
    (decode (0x18 :: b :: rest) = .rejected (.illegalOpcode .p2 b) ↔
      b ∉ ([0x08, 0x09, 0x1C, 0x1D, 0x1E, 0x1F, 0x30, 0x35, 0x38, 0x3A, 0x3C, 0x60, 0x63, 0x64, 0x66, 0x67,
        0x68, 0x69, 0x6A, 0x6C, 0x6D, 0x6E, 0x6F, 0x8C, 0x8F, 0x9C, 0xA0, 0xA1, 0xA2, 0xA3, 0xA4, 0xA5, 0xA6,
        0xA7, 0xA8, 0xA9, 0xAA, 0xAB, 0xAC, 0xAD, 0xAE, 0xAF, 0xBC, 0xCE, 0xDE, 0xDF, 0xE0, 0xE1, 0xE2, 0xE3,
        0xE4, 0xE5, 0xE6, 0xE7, 0xE8, 0xE9, 0xEA, 0xEB, 0xEC, 0xED, 0xEE, 0xEF, 0xFE, 0xFF] : List Byte)) ∧
    (decode (0x1A :: b :: rest) = .rejected (.illegalOpcode .p3 b) ↔
      b ∉ ([0x83, 0x93, 0xA3, 0xB3, 0xAC, 0xEE, 0xEF] : List Byte)) ∧
    (decode (0xCD :: b :: rest) = .rejected (.illegalOpcode .p4 b) ↔
      b ∉ ([0xA3, 0xAC, 0xEE, 0xEF] : List Byte)))

/-- A few words written out from the Encoding lines of the spec decode to the instructions they stand for: one
of every family and of every page. -/
def Obligations.SampleWordsDecode : Prop :=
  Decodes [0x86, 0xE6] (.ldaa (.imm 0xE6)) ∧
  Decodes [0x1A, 0xEE, 0x05] (.ldy (.mem (.indx 0x05))) ∧
  Decodes [0x7C, 0x12, 0x34] (.inc (.ext 0x1234)) ∧
  Decodes [0x1A, 0x83, 0xA1, 0xF5] (.cpd (.imm 0xA1F5)) ∧
  Decodes [0x1D, 0x04, 0x05] (.bclr (.indx 0x04) 0x05) ∧
  Decodes [0x18, 0x69, 0x07] (.rol (.indy 0x07)) ∧
  Decodes [0x18, 0x1E, 0x04, 0x80, 0xFC] (.brset (.indy 0x04) 0x80 0xFC) ∧
  Decodes [0xCD, 0xAC, 0x10] (.cpx (.mem (.indy 0x10))) ∧
  Decodes [0x3E] .wai ∧
  Decodes [0x18, 0x30] .tsy

/-! ## Memory and operands -/

/-- Byte accesses: ram and rom give back what is stored and a read changes nothing; a write changes ram at that
address alone, nothing in rom or where nothing is mapped; an io read hands the environment's answer over, an io
write is handed to the environment. A 16-bit access is two of them, the high byte at the address and the low byte
at the next one modulo 65536, and a word stored in ram reads back (20_memory.md R71 to R75, R77, R79). -/
def Obligations.MemoryAccesses : Prop :=
  ∀ (a : Word) (s : State),
    (Plain s a → readByte a s = (s.byteAt a, s)) ∧
    (kindAt s.params a = .io →
      (readByte a s).2.ioLog = .read a (readByte a s).1 :: s.ioLog ∧ KeepsBut [] s (readByte a s).2 ∧
        ∀ w : Word, (readByte a s).2.byteAt w = s.byteAt w) ∧
    (kindAt s.params a = .unmapped →
      KeepsBut [] s (readByte a s).2 ∧ SameMemory s (readByte a s).2) ∧
    (∀ v : Byte, s.mem.wf = true → KeepsBut [] s (writeByte a v s) ∧ Wrote [(a, v)] s (writeByte a v s)) ∧
    readWord a s =
      (cat (readByte a s).1 (readByte (a + 1) (readByte a s).2).1, (readByte (a + 1) (readByte a s).2).2) ∧
    ∀ v : Word, s.mem.wf = true →
      KeepsBut [] s (writeWord a v s) ∧ Wrote (wordWrites a v) s (writeWord a v s) ∧
        (kindAt s.params a = .ram → (readByte a (writeWord a v s)).1 = hi v) ∧
        (kindAt s.params (a + 1) = .ram → (readByte (a + 1) (writeWord a v s)).1 = lo v) ∧
        (kindAt s.params a = .ram → kindAt s.params (a + 1) = .ram →
          readWord a (writeWord a v s) = (v, writeWord a v s))

/-- The effective address of every memory form, and the operand of every form (30_encoding.md R121 to R124,
R127). -/
def Obligations.OperandForms : Prop :=
  ∀ s : State,
    (∀ dd : Byte, (effAddr (.dir dd) s).toNat = dd.toNat) ∧
    (∀ hh ll : Byte, (effAddr (.ext (cat hh ll)) s).toNat = 256 * hh.toNat + ll.toNat) ∧
    (∀ ff : Byte, (effAddr (.indx ff) s).toNat = (s.x.toNat + ff.toNat) % 65536) ∧
    (∀ ff : Byte, (effAddr (.indy ff) s).toNat = (s.y.toNat + ff.toNat) % 65536) ∧
    (∀ ii : Byte, readSrc8 (.imm ii) s = (ii, s)) ∧
    (∀ jj kk : Byte, (readSrc16 (.imm (cat jj kk)) s).1.toNat = 256 * jj.toNat + kk.toNat ∧
      (readSrc16 (.imm (cat jj kk)) s).2 = s) ∧
    ∀ m : Mem, readSrc8 (.mem m) s = readByte (effAddr m s) s ∧
      readSrc16 (.mem m) s = readWord (effAddr m s) s

/-! ## Loads and stores -/

/-- LDAA and LDAB (40_load_store_transfer.md R200, R201). -/
def Obligations.LoadAccumulators : Prop :=
  Src8Forms [0x86] [0x96] [0xB6] [0xA6] [0x18, 0xA6] .ldaa ∧
  Src8Forms [0xC6] [0xD6] [0xF6] [0xE6] [0x18, 0xE6] .ldab ∧
  ∀ (src : Src8) (s : State),
    (∃ t, exec (.ldaa src) s = .next t ∧ t.a = operand8 src s ∧ Moved8 (operand8 src s) t ∧
      KeepsBut [.a, .flagN, .flagZ, .flagV] s t ∧ Wrote [] (afterOperand8 src s) t) ∧
    (∃ t, exec (.ldab src) s = .next t ∧ t.b = operand8 src s ∧ Moved8 (operand8 src s) t ∧
      KeepsBut [.b, .flagN, .flagZ, .flagV] s t ∧ Wrote [] (afterOperand8 src s) t)

/-- LDD, LDS, LDX and LDY (40_load_store_transfer.md R202 to R205). -/
def Obligations.LoadWordRegisters : Prop :=
  Src16Forms [0xCC] [0xDC] [0xFC] [0xEC] [0x18, 0xEC] .ldd ∧
  Src16Forms [0x8E] [0x9E] [0xBE] [0xAE] [0x18, 0xAE] .lds ∧
  Src16Forms [0xCE] [0xDE] [0xFE] [0xEE] [0xCD, 0xEE] .ldx ∧
  Src16Forms [0x18, 0xCE] [0x18, 0xDE] [0x18, 0xFE] [0x1A, 0xEE] [0x18, 0xEE] .ldy ∧
  ∀ (src : Src16) (s : State),
    (∃ t, exec (.ldd src) s = .next t ∧ t.a = hi (operand16 src s) ∧ t.b = lo (operand16 src s) ∧
      Moved16 (operand16 src s) t ∧ KeepsBut [.a, .b, .flagN, .flagZ, .flagV] s t ∧
      Wrote [] (afterOperand16 src s) t) ∧
    (∃ t, exec (.lds src) s = .next t ∧ t.sp = operand16 src s ∧ Moved16 (operand16 src s) t ∧
      KeepsBut [.sp, .flagN, .flagZ, .flagV] s t ∧ Wrote [] (afterOperand16 src s) t) ∧
    (∃ t, exec (.ldx src) s = .next t ∧ t.x = operand16 src s ∧ Moved16 (operand16 src s) t ∧
      KeepsBut [.x, .flagN, .flagZ, .flagV] s t ∧ Wrote [] (afterOperand16 src s) t) ∧
    (∃ t, exec (.ldy src) s = .next t ∧ t.y = operand16 src s ∧ Moved16 (operand16 src s) t ∧
      KeepsBut [.y, .flagN, .flagZ, .flagV] s t ∧ Wrote [] (afterOperand16 src s) t)

/-- STAA and STAB (40_load_store_transfer.md R214, R215). -/
def Obligations.StoreAccumulators : Prop :=
  MemForms [0x97] [0xB7] [0xA7] [0x18, 0xA7] .staa ∧
  MemForms [0xD7] [0xF7] [0xE7] [0x18, 0xE7] .stab ∧
  ∀ (m : Mem) (s : State), s.mem.wf = true →
    (∃ t, exec (.staa m) s = .next t ∧ Wrote [(effAddr m s, s.a)] s t ∧ Moved8 s.a t ∧
      KeepsBut [.flagN, .flagZ, .flagV] s t) ∧
    (∃ t, exec (.stab m) s = .next t ∧ Wrote [(effAddr m s, s.b)] s t ∧ Moved8 s.b t ∧
      KeepsBut [.flagN, .flagZ, .flagV] s t)

/-- STD, STS, STX and STY (40_load_store_transfer.md R216 to R219). -/
def Obligations.StoreWordRegisters : Prop :=
  MemForms [0xDD] [0xFD] [0xED] [0x18, 0xED] .std ∧
  MemForms [0x9F] [0xBF] [0xAF] [0x18, 0xAF] .sts ∧
  MemForms [0xDF] [0xFF] [0xEF] [0xCD, 0xEF] .stx ∧
  MemForms [0x18, 0xDF] [0x18, 0xFF] [0x1A, 0xEF] [0x18, 0xEF] .sty ∧
  ∀ (m : Mem) (s : State), s.mem.wf = true →
    (∃ t, exec (.std m) s = .next t ∧ Wrote (wordWrites (effAddr m s) (cat s.a s.b)) s t ∧
      Moved16 (cat s.a s.b) t ∧ KeepsBut [.flagN, .flagZ, .flagV] s t) ∧
    (∃ t, exec (.sts m) s = .next t ∧ Wrote (wordWrites (effAddr m s) s.sp) s t ∧ Moved16 s.sp t ∧
      KeepsBut [.flagN, .flagZ, .flagV] s t) ∧
    (∃ t, exec (.stx m) s = .next t ∧ Wrote (wordWrites (effAddr m s) s.x) s t ∧ Moved16 s.x t ∧
      KeepsBut [.flagN, .flagZ, .flagV] s t) ∧
    (∃ t, exec (.sty m) s = .next t ∧ Wrote (wordWrites (effAddr m s) s.y) s t ∧ Moved16 s.y t ∧
      KeepsBut [.flagN, .flagZ, .flagV] s t)

/-! ## The stack -/

/-- PSHA, PSHB, PSHX and PSHY (40_load_store_transfer.md R206 to R209). -/
def Obligations.Pushes : Prop :=
  Decodes [0x36] .psha ∧ Decodes [0x37] .pshb ∧ Decodes [0x3C] .pshx ∧ Decodes [0x18, 0x3C] .pshy ∧
  ∀ s : State, s.mem.wf = true →
    (∃ t, exec .psha s = .next t ∧ Wrote [(s.sp, s.a)] s t ∧ t.sp = s.sp - 1 ∧ KeepsBut [.sp] s t) ∧
    (∃ t, exec .pshb s = .next t ∧ Wrote [(s.sp, s.b)] s t ∧ t.sp = s.sp - 1 ∧ KeepsBut [.sp] s t) ∧
    (∃ t, exec .pshx s = .next t ∧ Wrote (pushWrites s s.x) s t ∧ t.sp = s.sp - 2 ∧ KeepsBut [.sp] s t) ∧
    (∃ t, exec .pshy s = .next t ∧ Wrote (pushWrites s s.y) s t ∧ t.sp = s.sp - 2 ∧ KeepsBut [.sp] s t)

/-- PULA, PULB, PULX and PULY: the byte at SP + 1, or the word at SP + 1, high byte first
(40_load_store_transfer.md R210 to R213). -/
def Obligations.Pulls : Prop :=
  Decodes [0x32] .pula ∧ Decodes [0x33] .pulb ∧ Decodes [0x38] .pulx ∧ Decodes [0x18, 0x38] .puly ∧
  ∀ s : State,
    (∃ t, exec .pula s = .next t ∧ t.a = (readByte (s.sp + 1) s).1 ∧ t.sp = s.sp + 1 ∧
      KeepsBut [.a, .sp] s t ∧ Wrote [] (readByte (s.sp + 1) s).2 t) ∧
    (∃ t, exec .pulb s = .next t ∧ t.b = (readByte (s.sp + 1) s).1 ∧ t.sp = s.sp + 1 ∧
      KeepsBut [.b, .sp] s t ∧ Wrote [] (readByte (s.sp + 1) s).2 t) ∧
    (∃ t, exec .pulx s = .next t ∧ t.x = (readWord (s.sp + 1) s).1 ∧ t.sp = s.sp + 2 ∧
      KeepsBut [.x, .sp] s t ∧ Wrote [] (readWord (s.sp + 1) s).2 t) ∧
    (∃ t, exec .puly s = .next t ∧ t.y = (readWord (s.sp + 1) s).1 ∧ t.sp = s.sp + 2 ∧
      KeepsBut [.y, .sp] s t ∧ Wrote [] (readWord (s.sp + 1) s).2 t)

/-- On a stack in ram a pull undoes the push before it, whatever stood in the register between, and a return
undoes the call; PSHA, PSHB, PULX leaves B : A in X (40_load_store_transfer.md R212; 10_state.md R35, R37;
44_branch_jump.md R433, R442, R444). -/
def Obligations.StackDiscipline : Prop :=
  ∀ s : State, s.mem.wf = true → kindAt s.params s.sp = .ram → kindAt s.params (s.sp - 1) = .ram →
    (∀ v : Byte, ∃ t u, exec .psha s = .next t ∧ exec .pula (t.setA v) = .next u ∧ u.a = s.a ∧ u.sp = s.sp) ∧
    (∀ v : Byte, ∃ t u, exec .pshb s = .next t ∧ exec .pulb (t.setB v) = .next u ∧ u.b = s.b ∧ u.sp = s.sp) ∧
    (∀ v : Word, ∃ t u, exec .pshx s = .next t ∧ exec .pulx (t.setX v) = .next u ∧ u.x = s.x ∧ u.sp = s.sp) ∧
    (∀ v : Word, ∃ t u, exec .pshy s = .next t ∧ exec .puly (t.setY v) = .next u ∧ u.y = s.y ∧ u.sp = s.sp) ∧
    (∃ t u v, exec .psha s = .next t ∧ exec .pshb t = .next u ∧ exec .pulx u = .next v ∧
      v.x = cat s.b s.a ∧ v.sp = s.sp) ∧
    (∀ rr : Byte, ∃ t u, exec (.bsr rr) s = .next t ∧ exec .rts t = .next u ∧
      KeepsBut [] s u ∧ Wrote (pushWrites s s.pc) s u) ∧
    (∀ m : Mem, ∃ t u, exec (.jsr m) s = .next t ∧ exec .rts t = .next u ∧
      KeepsBut [] s u ∧ Wrote (pushWrites s s.pc) s u)

/-! ## Transfers -/

/-- TAB, TBA and TPA (40_load_store_transfer.md R220, R222, R223). -/
def Obligations.AccumulatorTransfers : Prop :=
  Decodes [0x16] .tab ∧ Decodes [0x17] .tba ∧ Decodes [0x07] .tpa ∧
  ∀ s : State,
    (∃ t, exec .tab s = .next t ∧ t.b = s.a ∧ Moved8 s.a t ∧ KeepsBut [.b, .flagN, .flagZ, .flagV] s t ∧
      Wrote [] s t) ∧
    (∃ t, exec .tba s = .next t ∧ t.a = s.b ∧ Moved8 s.b t ∧ KeepsBut [.a, .flagN, .flagZ, .flagV] s t ∧
      Wrote [] s t) ∧
    (∃ t, exec .tpa s = .next t ∧
      (bit t.a 7 = flagS s.ccr ∧ bit t.a 6 = flagX s.ccr ∧ bit t.a 5 = flagH s.ccr ∧ bit t.a 4 = flagI s.ccr ∧
        bit t.a 3 = flagN s.ccr ∧ bit t.a 2 = flagZ s.ccr ∧ bit t.a 1 = flagV s.ccr ∧
        bit t.a 0 = flagC s.ccr) ∧
      KeepsBut [.a] s t ∧ Wrote [] s t)

/-- TAP: bit i of A to bit i of the CCR, X only from 1 to 0, the inhibit set when I goes from 1 to 0
(40_load_store_transfer.md R221). -/
def Obligations.TransferAToCcr : Prop :=
  Decodes [0x06] .tap ∧
  ∀ s : State, ∃ t, exec .tap s = .next t ∧
    flagS t.ccr = bit s.a 7 ∧ flagX t.ccr = (flagX s.ccr && bit s.a 6) ∧ flagH t.ccr = bit s.a 5 ∧
    flagI t.ccr = bit s.a 4 ∧ flagN t.ccr = bit s.a 3 ∧ flagZ t.ccr = bit s.a 2 ∧ flagV t.ccr = bit s.a 1 ∧
    flagC t.ccr = bit s.a 0 ∧ t.inhibit = (s.inhibit || (flagI s.ccr && !flagI t.ccr)) ∧
    KeepsBut [.flagS, .flagX, .flagH, .flagI, .flagN, .flagZ, .flagV, .flagC, .inhibit] s t ∧ Wrote [] s t

/-- TYS, TXS, TSX, TSY, INS, DES, XGDX and XGDY, modulo 65536 and with no flag changed
(40_load_store_transfer.md R224 to R226; 46_absent_from_source.md R484 to R486; 41_arithmetic.md R276,
R285). -/
def Obligations.PointerTransfers : Prop :=
  Decodes [0x18, 0x35] .tys ∧ Decodes [0x35] .txs ∧ Decodes [0x30] .tsx ∧ Decodes [0x18, 0x30] .tsy ∧
  Decodes [0x31] .ins ∧ Decodes [0x34] .des ∧ Decodes [0x8F] .xgdx ∧ Decodes [0x18, 0x8F] .xgdy ∧
  ∀ s : State,
    (∃ t, exec .tys s = .next t ∧ (t.sp.toNat : Int) = ((s.y.toNat : Int) - 1) % 65536 ∧ KeepsBut [.sp] s t ∧
      Wrote [] s t) ∧
    (∃ t, exec .txs s = .next t ∧ (t.sp.toNat : Int) = ((s.x.toNat : Int) - 1) % 65536 ∧ KeepsBut [.sp] s t ∧
      Wrote [] s t) ∧
    (∃ t, exec .tsx s = .next t ∧ t.x.toNat = (s.sp.toNat + 1) % 65536 ∧ KeepsBut [.x] s t ∧ Wrote [] s t) ∧
    (∃ t, exec .tsy s = .next t ∧ t.y.toNat = (s.sp.toNat + 1) % 65536 ∧ KeepsBut [.y] s t ∧ Wrote [] s t) ∧
    (∃ t, exec .ins s = .next t ∧ t.sp.toNat = (s.sp.toNat + 1) % 65536 ∧ KeepsBut [.sp] s t ∧ Wrote [] s t) ∧
    (∃ t, exec .des s = .next t ∧ (t.sp.toNat : Int) = ((s.sp.toNat : Int) - 1) % 65536 ∧
      KeepsBut [.sp] s t ∧ Wrote [] s t) ∧
    (∃ t, exec .xgdx s = .next t ∧ t.a = hi s.x ∧ t.b = lo s.x ∧ t.x = cat s.a s.b ∧
      KeepsBut [.a, .b, .x] s t ∧ Wrote [] s t) ∧
    (∃ t, exec .xgdy s = .next t ∧ t.a = hi s.y ∧ t.b = lo s.y ∧ t.y = cat s.a s.b ∧
      KeepsBut [.a, .b, .y] s t ∧ Wrote [] s t)

/-! ## Arithmetic -/

/-- ABX and ABY add B as an unsigned number and change no flag; INX, INY, DEX and DEY change Z alone
(41_arithmetic.md R251, R252, R277, R278, R286, R287). -/
def Obligations.IndexArithmetic : Prop :=
  Decodes [0x3A] .abx ∧ Decodes [0x18, 0x3A] .aby ∧ Decodes [0x08] .inx ∧ Decodes [0x18, 0x08] .iny ∧
  Decodes [0x09] .dex ∧ Decodes [0x18, 0x09] .dey ∧
  ∀ s : State,
    (∃ t, exec .abx s = .next t ∧ t.x.toNat = (s.x.toNat + s.b.toNat) % 65536 ∧ KeepsBut [.x] s t ∧
      Wrote [] s t) ∧
    (∃ t, exec .aby s = .next t ∧ t.y.toNat = (s.y.toNat + s.b.toNat) % 65536 ∧ KeepsBut [.y] s t ∧
      Wrote [] s t) ∧
    (∃ t, exec .inx s = .next t ∧ t.x.toNat = (s.x.toNat + 1) % 65536 ∧ flagZ t.ccr = decide (t.x = 0) ∧
      KeepsBut [.x, .flagZ] s t ∧ Wrote [] s t) ∧
    (∃ t, exec .iny s = .next t ∧ t.y.toNat = (s.y.toNat + 1) % 65536 ∧ flagZ t.ccr = decide (t.y = 0) ∧
      KeepsBut [.y, .flagZ] s t ∧ Wrote [] s t) ∧
    (∃ t, exec .dex s = .next t ∧ (t.x.toNat : Int) = ((s.x.toNat : Int) - 1) % 65536 ∧
      flagZ t.ccr = decide (t.x = 0) ∧ KeepsBut [.x, .flagZ] s t ∧ Wrote [] s t) ∧
    (∃ t, exec .dey s = .next t ∧ (t.y.toNat : Int) = ((s.y.toNat : Int) - 1) % 65536 ∧
      flagZ t.ccr = decide (t.y = 0) ∧ KeepsBut [.y, .flagZ] s t ∧ Wrote [] s t)

/-- ABA, ADCA, ADCB, ADDA and ADDB: the sum modulo 256, C the unsigned carry, H the carry out of bit 3, V the
signed overflow (41_arithmetic.md R250, R253 to R256; 00_scope.md R17). -/
def Obligations.ByteAdditions : Prop :=
  Decodes [0x1B] .aba ∧
  Src8Forms [0x89] [0x99] [0xB9] [0xA9] [0x18, 0xA9] .adca ∧
  Src8Forms [0xC9] [0xD9] [0xF9] [0xE9] [0x18, 0xE9] .adcb ∧
  Src8Forms [0x8B] [0x9B] [0xBB] [0xAB] [0x18, 0xAB] .adda ∧
  Src8Forms [0xCB] [0xDB] [0xFB] [0xEB] [0x18, 0xEB] .addb ∧
  ∀ (src : Src8) (s : State),
    (∃ t, exec .aba s = .next t ∧ Summed8 s.a s.b false t.a t ∧
      KeepsBut [.a, .flagH, .flagN, .flagZ, .flagV, .flagC] s t ∧ Wrote [] s t) ∧
    (∃ t, exec (.adca src) s = .next t ∧ Summed8 s.a (operand8 src s) (flagC s.ccr) t.a t ∧
      KeepsBut [.a, .flagH, .flagN, .flagZ, .flagV, .flagC] s t ∧ Wrote [] (afterOperand8 src s) t) ∧
    (∃ t, exec (.adcb src) s = .next t ∧ Summed8 s.b (operand8 src s) (flagC s.ccr) t.b t ∧
      KeepsBut [.b, .flagH, .flagN, .flagZ, .flagV, .flagC] s t ∧ Wrote [] (afterOperand8 src s) t) ∧
    (∃ t, exec (.adda src) s = .next t ∧ Summed8 s.a (operand8 src s) false t.a t ∧
      KeepsBut [.a, .flagH, .flagN, .flagZ, .flagV, .flagC] s t ∧ Wrote [] (afterOperand8 src s) t) ∧
    (∃ t, exec (.addb src) s = .next t ∧ Summed8 s.b (operand8 src s) false t.b t ∧
      KeepsBut [.b, .flagH, .flagN, .flagZ, .flagV, .flagC] s t ∧ Wrote [] (afterOperand8 src s) t)

/-- SBA, SBCA, SBCB, SUBA and SUBB: the difference modulo 256, C the unsigned borrow, V the signed overflow
(41_arithmetic.md R292 to R296; 00_scope.md R17). -/
def Obligations.ByteSubtractions : Prop :=
  Decodes [0x10] .sba ∧
  Src8Forms [0x82] [0x92] [0xB2] [0xA2] [0x18, 0xA2] .sbca ∧
  Src8Forms [0xC2] [0xD2] [0xF2] [0xE2] [0x18, 0xE2] .sbcb ∧
  Src8Forms [0x80] [0x90] [0xB0] [0xA0] [0x18, 0xA0] .suba ∧
  Src8Forms [0xC0] [0xD0] [0xF0] [0xE0] [0x18, 0xE0] .subb ∧
  ∀ (src : Src8) (s : State),
    (∃ t, exec .sba s = .next t ∧ Subtracted8 s.a s.b false t.a t ∧
      KeepsBut [.a, .flagN, .flagZ, .flagV, .flagC] s t ∧ Wrote [] s t) ∧
    (∃ t, exec (.sbca src) s = .next t ∧ Subtracted8 s.a (operand8 src s) (flagC s.ccr) t.a t ∧
      KeepsBut [.a, .flagN, .flagZ, .flagV, .flagC] s t ∧ Wrote [] (afterOperand8 src s) t) ∧
    (∃ t, exec (.sbcb src) s = .next t ∧ Subtracted8 s.b (operand8 src s) (flagC s.ccr) t.b t ∧
      KeepsBut [.b, .flagN, .flagZ, .flagV, .flagC] s t ∧ Wrote [] (afterOperand8 src s) t) ∧
    (∃ t, exec (.suba src) s = .next t ∧ Subtracted8 s.a (operand8 src s) false t.a t ∧
      KeepsBut [.a, .flagN, .flagZ, .flagV, .flagC] s t ∧ Wrote [] (afterOperand8 src s) t) ∧
    (∃ t, exec (.subb src) s = .next t ∧ Subtracted8 s.b (operand8 src s) false t.b t ∧
      KeepsBut [.b, .flagN, .flagZ, .flagV, .flagC] s t ∧ Wrote [] (afterOperand8 src s) t)

/-- CBA, CMPA and CMPB: the flags of the difference, nothing else written (41_arithmetic.md R258, R262, R263;
90_conflicts.md C4). -/
def Obligations.ByteCompares : Prop :=
  Decodes [0x11] .cba ∧
  Src8Forms [0x81] [0x91] [0xB1] [0xA1] [0x18, 0xA1] .cmpa ∧
  Src8Forms [0xC1] [0xD1] [0xF1] [0xE1] [0x18, 0xE1] .cmpb ∧
  ∀ (src : Src8) (s : State),
    (∃ t r, exec .cba s = .next t ∧ Subtracted8 s.a s.b false r t ∧
      KeepsBut [.flagN, .flagZ, .flagV, .flagC] s t ∧ Wrote [] s t) ∧
    (∃ t r, exec (.cmpa src) s = .next t ∧ Subtracted8 s.a (operand8 src s) false r t ∧
      KeepsBut [.flagN, .flagZ, .flagV, .flagC] s t ∧ Wrote [] (afterOperand8 src s) t) ∧
    (∃ t r, exec (.cmpb src) s = .next t ∧ Subtracted8 s.b (operand8 src s) false r t ∧
      KeepsBut [.flagN, .flagZ, .flagV, .flagC] s t ∧ Wrote [] (afterOperand8 src s) t)

/-- ADDD and SUBD, and the compares CPD, CPX and CPY, which write the flags alone (41_arithmetic.md R257, R264
to R266, R297; 00_scope.md R17). -/
def Obligations.WordArithmetic : Prop :=
  Src16Forms [0xC3] [0xD3] [0xF3] [0xE3] [0x18, 0xE3] .addd ∧
  Src16Forms [0x83] [0x93] [0xB3] [0xA3] [0x18, 0xA3] .subd ∧
  Src16Forms [0x1A, 0x83] [0x1A, 0x93] [0x1A, 0xB3] [0x1A, 0xA3] [0xCD, 0xA3] .cpd ∧
  Src16Forms [0x8C] [0x9C] [0xBC] [0xAC] [0xCD, 0xAC] .cpx ∧
  Src16Forms [0x18, 0x8C] [0x18, 0x9C] [0x18, 0xBC] [0x1A, 0xAC] [0x18, 0xAC] .cpy ∧
  ∀ (src : Src16) (s : State),
    (∃ t, exec (.addd src) s = .next t ∧ Summed16 (cat s.a s.b) (operand16 src s) (cat t.a t.b) t ∧
      KeepsBut [.a, .b, .flagN, .flagZ, .flagV, .flagC] s t ∧ Wrote [] (afterOperand16 src s) t) ∧
    (∃ t, exec (.subd src) s = .next t ∧ Subtracted16 (cat s.a s.b) (operand16 src s) (cat t.a t.b) t ∧
      KeepsBut [.a, .b, .flagN, .flagZ, .flagV, .flagC] s t ∧ Wrote [] (afterOperand16 src s) t) ∧
    (∃ t r, exec (.cpd src) s = .next t ∧ Subtracted16 (cat s.a s.b) (operand16 src s) r t ∧
      KeepsBut [.flagN, .flagZ, .flagV, .flagC] s t ∧ Wrote [] (afterOperand16 src s) t) ∧
    (∃ t r, exec (.cpx src) s = .next t ∧ Subtracted16 s.x (operand16 src s) r t ∧
      KeepsBut [.flagN, .flagZ, .flagV, .flagC] s t ∧ Wrote [] (afterOperand16 src s) t) ∧
    (∃ t r, exec (.cpy src) s = .next t ∧ Subtracted16 s.y (operand16 src s) r t ∧
      KeepsBut [.flagN, .flagZ, .flagV, .flagC] s t ∧ Wrote [] (afterOperand16 src s) t)

/-- CLR (after a discarded read), CLRA and CLRB: N = 0, Z = 1, V = 0, C = 0 (41_arithmetic.md R259 to R261;
20_memory.md R76). -/
def Obligations.Clears : Prop :=
  NoDirForms [0x7F] [0x6F] [0x18, 0x6F] .clr ∧ Decodes [0x4F] .clra ∧ Decodes [0x5F] .clrb ∧
  ∀ (m : MemNoDir) (s : State), s.mem.wf = true →
    (∃ t, exec (.clr m) s = .next t ∧
      Wrote [(effAddr m.toMem s, 0)] (readByte (effAddr m.toMem s) s).2 t ∧
      flagN t.ccr = false ∧ flagZ t.ccr = true ∧ flagV t.ccr = false ∧ flagC t.ccr = false ∧
      KeepsBut [.flagN, .flagZ, .flagV, .flagC] s t) ∧
    (∃ t, exec .clra s = .next t ∧ t.a = 0 ∧
      flagN t.ccr = false ∧ flagZ t.ccr = true ∧ flagV t.ccr = false ∧ flagC t.ccr = false ∧
      KeepsBut [.a, .flagN, .flagZ, .flagV, .flagC] s t ∧ Wrote [] s t) ∧
    (∃ t, exec .clrb s = .next t ∧ t.b = 0 ∧
      flagN t.ccr = false ∧ flagZ t.ccr = true ∧ flagV t.ccr = false ∧ flagC t.ccr = false ∧
      KeepsBut [.b, .flagN, .flagZ, .flagV, .flagC] s t ∧ Wrote [] s t)

/-- COM, COMA, COMB (V = 0, C = 1) and NEG, NEGA, NEGB (the result and the flags of 0 - m: V when m is $80, C
when m is not 0), the memory forms with one read and one write (42_logic_bit.md R339 to R341; 41_arithmetic.md
R289 to R291; 20_memory.md R76). -/
def Obligations.ComplementsAndNegations : Prop :=
  NoDirForms [0x73] [0x63] [0x18, 0x63] .com ∧ Decodes [0x43] .coma ∧ Decodes [0x53] .comb ∧
  NoDirForms [0x70] [0x60] [0x18, 0x60] .neg ∧ Decodes [0x40] .nega ∧ Decodes [0x50] .negb ∧
  ∀ (m : MemNoDir) (s : State), s.mem.wf = true →
    (∃ t r, exec (.com m) s = .next t ∧ r.toNat = 255 - (readByte (effAddr m.toMem s) s).1.toNat ∧
      Wrote [(effAddr m.toMem s, r)] (readByte (effAddr m.toMem s) s).2 t ∧
      Moved8 r t ∧ flagC t.ccr = true ∧ KeepsBut [.flagN, .flagZ, .flagV, .flagC] s t) ∧
    (∃ t, exec .coma s = .next t ∧ t.a.toNat = 255 - s.a.toNat ∧ Moved8 t.a t ∧ flagC t.ccr = true ∧
      KeepsBut [.a, .flagN, .flagZ, .flagV, .flagC] s t ∧ Wrote [] s t) ∧
    (∃ t, exec .comb s = .next t ∧ t.b.toNat = 255 - s.b.toNat ∧ Moved8 t.b t ∧ flagC t.ccr = true ∧
      KeepsBut [.b, .flagN, .flagZ, .flagV, .flagC] s t ∧ Wrote [] s t) ∧
    (∃ t r, exec (.neg m) s = .next t ∧ Subtracted8 0 (readByte (effAddr m.toMem s) s).1 false r t ∧
      flagV t.ccr = decide (r = 0x80) ∧ flagC t.ccr = decide (r ≠ 0) ∧
      Wrote [(effAddr m.toMem s, r)] (readByte (effAddr m.toMem s) s).2 t ∧
      KeepsBut [.flagN, .flagZ, .flagV, .flagC] s t) ∧
    (∃ t, exec .nega s = .next t ∧ Subtracted8 0 s.a false t.a t ∧
      flagV t.ccr = decide (t.a = 0x80) ∧ flagC t.ccr = decide (t.a ≠ 0) ∧
      KeepsBut [.a, .flagN, .flagZ, .flagV, .flagC] s t ∧ Wrote [] s t) ∧
    (∃ t, exec .negb s = .next t ∧ Subtracted8 0 s.b false t.b t ∧
      flagV t.ccr = decide (t.b = 0x80) ∧ flagC t.ccr = decide (t.b ≠ 0) ∧
      KeepsBut [.b, .flagN, .flagZ, .flagV, .flagC] s t ∧ Wrote [] s t)

/-- INC, INCA, INCB, DEC, DECA and DECB: C unchanged, V the signed overflow, which is m = $7F or m = $80
(41_arithmetic.md R273 to R275, R282 to R284; 20_memory.md R76). -/
def Obligations.IncrementsAndDecrements : Prop :=
  NoDirForms [0x7C] [0x6C] [0x18, 0x6C] .inc ∧ Decodes [0x4C] .inca ∧ Decodes [0x5C] .incb ∧
  NoDirForms [0x7A] [0x6A] [0x18, 0x6A] .dec ∧ Decodes [0x4A] .deca ∧ Decodes [0x5A] .decb ∧
  ∀ (m : MemNoDir) (s : State), s.mem.wf = true →
    (∃ t r, exec (.inc m) s = .next t ∧
      r.toNat = ((readByte (effAddr m.toMem s) s).1.toNat + 1) % 256 ∧ NZ8Of r t ∧
      flagV t.ccr = decide ((readByte (effAddr m.toMem s) s).1 = 0x7F) ∧
      Wrote [(effAddr m.toMem s, r)] (readByte (effAddr m.toMem s) s).2 t ∧
      KeepsBut [.flagN, .flagZ, .flagV] s t) ∧
    (∃ t, exec .inca s = .next t ∧ t.a.toNat = (s.a.toNat + 1) % 256 ∧ NZ8Of t.a t ∧
      flagV t.ccr = decide (s.a = 0x7F) ∧ KeepsBut [.a, .flagN, .flagZ, .flagV] s t ∧ Wrote [] s t) ∧
    (∃ t, exec .incb s = .next t ∧ t.b.toNat = (s.b.toNat + 1) % 256 ∧ NZ8Of t.b t ∧
      flagV t.ccr = decide (s.b = 0x7F) ∧ KeepsBut [.b, .flagN, .flagZ, .flagV] s t ∧ Wrote [] s t) ∧
    (∃ t r, exec (.dec m) s = .next t ∧
      (r.toNat : Int) = (((readByte (effAddr m.toMem s) s).1.toNat : Int) - 1) % 256 ∧ NZ8Of r t ∧
      flagV t.ccr = decide ((readByte (effAddr m.toMem s) s).1 = 0x80) ∧
      Wrote [(effAddr m.toMem s, r)] (readByte (effAddr m.toMem s) s).2 t ∧
      KeepsBut [.flagN, .flagZ, .flagV] s t) ∧
    (∃ t, exec .deca s = .next t ∧ (t.a.toNat : Int) = ((s.a.toNat : Int) - 1) % 256 ∧ NZ8Of t.a t ∧
      flagV t.ccr = decide (s.a = 0x80) ∧ KeepsBut [.a, .flagN, .flagZ, .flagV] s t ∧ Wrote [] s t) ∧
    (∃ t, exec .decb s = .next t ∧ (t.b.toNat : Int) = ((s.b.toNat : Int) - 1) % 256 ∧ NZ8Of t.b t ∧
      flagV t.ccr = decide (s.b = 0x80) ∧ KeepsBut [.b, .flagN, .flagZ, .flagV] s t ∧ Wrote [] s t)

/-- MUL: the unsigned product in D, C its bit 7, nothing else (41_arithmetic.md R288). -/
def Obligations.Multiply : Prop :=
  Decodes [0x3D] .mul ∧
  ∀ s : State, ∃ t, exec .mul s = .next t ∧ (cat t.a t.b).toNat = s.a.toNat * s.b.toNat ∧
    flagC t.ccr = (cat t.a t.b).getLsbD 7 ∧ KeepsBut [.a, .b, .flagC] s t ∧ Wrote [] s t

/-- FDIV and IDIV of n = D by d = X: quotient to X, remainder to D, no trap; where the quotient is forced to
$FFFF the remainder is any value (41_arithmetic.md R280, R281). -/
def Obligations.Divisions : Prop :=
  Decodes [0x03] .fdiv ∧ Decodes [0x02] .idiv ∧
  ∀ s : State,
    (∃ t, exec .fdiv s = .next t ∧
      (if s.x = 0 ∨ s.x.toNat ≤ (cat s.a s.b).toNat then t.x = 0xFFFF
        else (cat s.a s.b).toNat * 65536 = t.x.toNat * s.x.toNat + (cat t.a t.b).toNat ∧
          (cat t.a t.b).toNat < s.x.toNat) ∧
      flagZ t.ccr = decide (t.x = 0) ∧ flagV t.ccr = decide (s.x.toNat ≤ (cat s.a s.b).toNat) ∧
      flagC t.ccr = decide (s.x = 0) ∧
      KeepsBut [.a, .b, .x, .flagZ, .flagV, .flagC] s t ∧ SameMemory s t) ∧
    (∃ t, exec .idiv s = .next t ∧
      (if s.x = 0 then t.x = 0xFFFF
        else (cat s.a s.b).toNat = t.x.toNat * s.x.toNat + (cat t.a t.b).toNat ∧
          (cat t.a t.b).toNat < s.x.toNat) ∧
      flagZ t.ccr = decide (t.x = 0) ∧ flagV t.ccr = false ∧ flagC t.ccr = decide (s.x = 0) ∧
      KeepsBut [.a, .b, .x, .flagZ, .flagV, .flagC] s t ∧ SameMemory s t)

/-- DAA: $00, $06, $60 or $66 added as H, C and the two digits say; N, Z and C defined, V any value, H unchanged.
Outside sums of two decimal bytes the formula is followed all the same, as D25 of the spec does (41_arithmetic.md
R272; log 13). -/
def Obligations.DecimalAdjust : Prop :=
  Decodes [0x19] .daa ∧
  ∀ s : State, ∃ t, exec .daa s = .next t ∧
    (let lowfix := flagH s.ccr || decide (9 < s.a.toNat % 16)
     let highfix := flagC s.ccr || decide (9 < s.a.toNat / 16) ||
       (decide (9 ≤ s.a.toNat / 16) && decide (9 < s.a.toNat % 16))
     t.a.toNat = (s.a.toNat + (if lowfix then 6 else 0) + (if highfix then 96 else 0)) % 256 ∧
       flagC t.ccr = (flagC s.ccr || highfix)) ∧
    NZ8Of t.a t ∧ KeepsBut [.a, .flagN, .flagZ, .flagV, .flagC] s t ∧ SameMemory s t

/-- Decimal addition is exact: ADDA or ADCA of a byte of two decimal digits with such an operand, in whatever
form, or ABA of two such bytes, then DAA, leaves the two low digits of the decimal sum in A and its hundreds in C
(41_arithmetic.md R272). -/
def Obligations.DecimalAdditionExact : Prop :=
  ∀ (m n : Nat) (s : State), m < 100 → n < 100 → s.a = bcd m →
    (∀ src : Src8, operand8 src s = bcd n → ∃ t u, exec (.adda src) s = .next t ∧ exec .daa t = .next u ∧
      u.a = bcd ((m + n) % 100) ∧ flagC u.ccr = decide (100 ≤ m + n)) ∧
    (∀ src : Src8, operand8 src s = bcd n → ∃ t u, exec (.adca src) s = .next t ∧ exec .daa t = .next u ∧
      u.a = bcd ((m + n + (flagC s.ccr).toNat) % 100) ∧
      flagC u.ccr = decide (100 ≤ m + n + (flagC s.ccr).toNat)) ∧
    (s.b = bcd n → ∃ t u, exec .aba s = .next t ∧ exec .daa t = .next u ∧
      u.a = bcd ((m + n) % 100) ∧ flagC u.ccr = decide (100 ≤ m + n))

/-! ## Logic, bits and flags -/

/-- ANDA, ANDB, EORA, EORB, ORAA and ORAB, bit by bit; C and H unchanged (42_logic_bit.md R330, R331, R342 to
R345). -/
def Obligations.Logic : Prop :=
  Src8Forms [0x84] [0x94] [0xB4] [0xA4] [0x18, 0xA4] .anda ∧
  Src8Forms [0xC4] [0xD4] [0xF4] [0xE4] [0x18, 0xE4] .andb ∧
  Src8Forms [0x88] [0x98] [0xB8] [0xA8] [0x18, 0xA8] .eora ∧
  Src8Forms [0xC8] [0xD8] [0xF8] [0xE8] [0x18, 0xE8] .eorb ∧
  Src8Forms [0x8A] [0x9A] [0xBA] [0xAA] [0x18, 0xAA] .oraa ∧
  Src8Forms [0xCA] [0xDA] [0xFA] [0xEA] [0x18, 0xEA] .orab ∧
  ∀ (src : Src8) (s : State),
    (∃ t, exec (.anda src) s = .next t ∧ (∀ i, i < 8 → bit t.a i = (bit s.a i && bit (operand8 src s) i)) ∧
      Moved8 t.a t ∧ KeepsBut [.a, .flagN, .flagZ, .flagV] s t ∧ Wrote [] (afterOperand8 src s) t) ∧
    (∃ t, exec (.andb src) s = .next t ∧ (∀ i, i < 8 → bit t.b i = (bit s.b i && bit (operand8 src s) i)) ∧
      Moved8 t.b t ∧ KeepsBut [.b, .flagN, .flagZ, .flagV] s t ∧ Wrote [] (afterOperand8 src s) t) ∧
    (∃ t, exec (.eora src) s = .next t ∧ (∀ i, i < 8 → bit t.a i = (bit s.a i ^^ bit (operand8 src s) i)) ∧
      Moved8 t.a t ∧ KeepsBut [.a, .flagN, .flagZ, .flagV] s t ∧ Wrote [] (afterOperand8 src s) t) ∧
    (∃ t, exec (.eorb src) s = .next t ∧ (∀ i, i < 8 → bit t.b i = (bit s.b i ^^ bit (operand8 src s) i)) ∧
      Moved8 t.b t ∧ KeepsBut [.b, .flagN, .flagZ, .flagV] s t ∧ Wrote [] (afterOperand8 src s) t) ∧
    (∃ t, exec (.oraa src) s = .next t ∧ (∀ i, i < 8 → bit t.a i = (bit s.a i || bit (operand8 src s) i)) ∧
      Moved8 t.a t ∧ KeepsBut [.a, .flagN, .flagZ, .flagV] s t ∧ Wrote [] (afterOperand8 src s) t) ∧
    (∃ t, exec (.orab src) s = .next t ∧ (∀ i, i < 8 → bit t.b i = (bit s.b i || bit (operand8 src s) i)) ∧
      Moved8 t.b t ∧ KeepsBut [.b, .flagN, .flagZ, .flagV] s t ∧ Wrote [] (afterOperand8 src s) t)

/-- BITA, BITB, TST, TSTA and TSTB write the CCR alone: N and Z of A and M or of the operand, V = 0, and for the
TST forms C = 0 (42_logic_bit.md R333, R334; 46_absent_from_source.md R481 to R483). -/
def Obligations.BitTestsAndTests : Prop :=
  Src8Forms [0x85] [0x95] [0xB5] [0xA5] [0x18, 0xA5] .bita ∧
  Src8Forms [0xC5] [0xD5] [0xF5] [0xE5] [0x18, 0xE5] .bitb ∧
  NoDirForms [0x7D] [0x6D] [0x18, 0x6D] .tst ∧ Decodes [0x4D] .tsta ∧ Decodes [0x5D] .tstb ∧
  ∀ (src : Src8) (m : MemNoDir) (s : State),
    (∃ t r, exec (.bita src) s = .next t ∧ (∀ i, i < 8 → bit r i = (bit s.a i && bit (operand8 src s) i)) ∧
      Moved8 r t ∧ KeepsBut [.flagN, .flagZ, .flagV] s t ∧ Wrote [] (afterOperand8 src s) t) ∧
    (∃ t r, exec (.bitb src) s = .next t ∧ (∀ i, i < 8 → bit r i = (bit s.b i && bit (operand8 src s) i)) ∧
      Moved8 r t ∧ KeepsBut [.flagN, .flagZ, .flagV] s t ∧ Wrote [] (afterOperand8 src s) t) ∧
    (∃ t, exec (.tst m) s = .next t ∧ Moved8 (readByte (effAddr m.toMem s) s).1 t ∧ flagC t.ccr = false ∧
      KeepsBut [.flagN, .flagZ, .flagV, .flagC] s t ∧ Wrote [] (readByte (effAddr m.toMem s) s).2 t) ∧
    (∃ t, exec .tsta s = .next t ∧ Moved8 s.a t ∧ flagC t.ccr = false ∧
      KeepsBut [.flagN, .flagZ, .flagV, .flagC] s t ∧ Wrote [] s t) ∧
    (∃ t, exec .tstb s = .next t ∧ Moved8 s.b t ∧ flagC t.ccr = false ∧
      KeepsBut [.flagN, .flagZ, .flagV, .flagC] s t ∧ Wrote [] s t)

/-- BSET and BCLR: one read, one write of the byte with the bits of the mask set or cleared and its other bits
as they were (42_logic_bit.md R332, R335; 20_memory.md R76). -/
def Obligations.BitSetAndClear : Prop :=
  MaskForms [0x14] [0x1C] [0x18, 0x1C] .bset ∧ MaskForms [0x15] [0x1D] [0x18, 0x1D] .bclr ∧
  ∀ (m : MemBit) (mm : Byte) (s : State), s.mem.wf = true →
    (∃ t r, exec (.bset m mm) s = .next t ∧
      (∀ i, i < 8 → bit r i = if bit mm i then true else bit (readByte (effAddr m.toMem s) s).1 i) ∧
      Wrote [(effAddr m.toMem s, r)] (readByte (effAddr m.toMem s) s).2 t ∧ Moved8 r t ∧
      KeepsBut [.flagN, .flagZ, .flagV] s t) ∧
    (∃ t r, exec (.bclr m mm) s = .next t ∧
      (∀ i, i < 8 → bit r i = if bit mm i then false else bit (readByte (effAddr m.toMem s) s).1 i) ∧
      Wrote [(effAddr m.toMem s, r)] (readByte (effAddr m.toMem s) s).2 t ∧ Moved8 r t ∧
      KeepsBut [.flagN, .flagZ, .flagV] s t)

/-- CLC, SEC, CLV, SEV, CLI and SEI write one bit. CLI sets the inhibit when I was 1, so that the next
instruction is executed before any interrupt; SEI takes effect at once (42_logic_bit.md R336 to R338, R346 to
R348). -/
def Obligations.FlagInstructions : Prop :=
  Decodes [0x0C] .clc ∧ Decodes [0x0D] .sec ∧ Decodes [0x0A] .clv ∧ Decodes [0x0B] .sev ∧
  Decodes [0x0E] .cli ∧ Decodes [0x0F] .sei ∧
  ∀ s : State,
    (∃ t, exec .clc s = .next t ∧ flagC t.ccr = false ∧ KeepsBut [.flagC] s t ∧ Wrote [] s t) ∧
    (∃ t, exec .sec s = .next t ∧ flagC t.ccr = true ∧ KeepsBut [.flagC] s t ∧ Wrote [] s t) ∧
    (∃ t, exec .clv s = .next t ∧ flagV t.ccr = false ∧ KeepsBut [.flagV] s t ∧ Wrote [] s t) ∧
    (∃ t, exec .sev s = .next t ∧ flagV t.ccr = true ∧ KeepsBut [.flagV] s t ∧ Wrote [] s t) ∧
    (∃ t, exec .cli s = .next t ∧ flagI t.ccr = false ∧ t.inhibit = (s.inhibit || flagI s.ccr) ∧
      (flagI s.ccr = true → interruptNow t = none) ∧ KeepsBut [.flagI, .inhibit] s t ∧ Wrote [] s t) ∧
    (∃ t, exec .sei s = .next t ∧ flagI t.ccr = true ∧
      (∀ r, Deliverable t r → r.cls = .classX) ∧ KeepsBut [.flagI] s t ∧ Wrote [] s t)

/-! ## Shifts and rotates -/

/-- ASL and its second spelling LSL shift a 0 in from the right, ROL the old C; the A, B, memory and D forms
(43_shift_rotate.md R370 to R373, R377, R378, R383 to R385; 20_memory.md R76). -/
def Obligations.LeftShifts : Prop :=
  NoDirForms [0x78] [0x68] [0x18, 0x68] .asl ∧ Decodes [0x48] .asla ∧ Decodes [0x58] .aslb ∧
  Decodes [0x05] .asld ∧
  (∀ m : MemNoDir, encode (.lsl m) = encode (.asl m)) ∧ encode .lsla = [0x48] ∧ encode .lslb = [0x58] ∧
  encode .lsld = [0x05] ∧
  NoDirForms [0x79] [0x69] [0x18, 0x69] .rol ∧ Decodes [0x49] .rola ∧ Decodes [0x59] .rolb ∧
  ∀ (m : MemNoDir) (s : State), s.mem.wf = true →
    (∃ t r, exec (.asl m) s = .next t ∧ exec (.lsl m) s = .next t ∧
      MovedLeft8 (readByte (effAddr m.toMem s) s).1 false r t ∧
      Wrote [(effAddr m.toMem s, r)] (readByte (effAddr m.toMem s) s).2 t ∧
      KeepsBut [.flagN, .flagZ, .flagV, .flagC] s t) ∧
    (∃ t, exec .asla s = .next t ∧ exec .lsla s = .next t ∧ MovedLeft8 s.a false t.a t ∧
      KeepsBut [.a, .flagN, .flagZ, .flagV, .flagC] s t ∧ Wrote [] s t) ∧
    (∃ t, exec .aslb s = .next t ∧ exec .lslb s = .next t ∧ MovedLeft8 s.b false t.b t ∧
      KeepsBut [.b, .flagN, .flagZ, .flagV, .flagC] s t ∧ Wrote [] s t) ∧
    (∃ t, exec .asld s = .next t ∧ exec .lsld s = .next t ∧ MovedLeft16 (cat s.a s.b) (cat t.a t.b) t ∧
      KeepsBut [.a, .b, .flagN, .flagZ, .flagV, .flagC] s t ∧ Wrote [] s t) ∧
    (∃ t r, exec (.rol m) s = .next t ∧
      MovedLeft8 (readByte (effAddr m.toMem s) s).1 (flagC s.ccr) r t ∧
      Wrote [(effAddr m.toMem s, r)] (readByte (effAddr m.toMem s) s).2 t ∧
      KeepsBut [.flagN, .flagZ, .flagV, .flagC] s t) ∧
    (∃ t, exec .rola s = .next t ∧ MovedLeft8 s.a (flagC s.ccr) t.a t ∧
      KeepsBut [.a, .flagN, .flagZ, .flagV, .flagC] s t ∧ Wrote [] s t) ∧
    (∃ t, exec .rolb s = .next t ∧ MovedLeft8 s.b (flagC s.ccr) t.b t ∧
      KeepsBut [.b, .flagN, .flagZ, .flagV, .flagC] s t ∧ Wrote [] s t)

/-- ASR keeps the top bit, LSR shifts a 0 in from the left, ROR the old C; the A, B and memory forms, and LSRD
(43_shift_rotate.md R374 to R376, R379 to R382, R386 to R388; 20_memory.md R76). -/
def Obligations.RightShifts : Prop :=
  NoDirForms [0x77] [0x67] [0x18, 0x67] .asr ∧ Decodes [0x47] .asra ∧ Decodes [0x57] .asrb ∧
  NoDirForms [0x74] [0x64] [0x18, 0x64] .lsr ∧ Decodes [0x44] .lsra ∧ Decodes [0x54] .lsrb ∧
  Decodes [0x04] .lsrd ∧
  NoDirForms [0x76] [0x66] [0x18, 0x66] .ror ∧ Decodes [0x46] .rora ∧ Decodes [0x56] .rorb ∧
  ∀ (m : MemNoDir) (s : State), s.mem.wf = true →
    (∃ t r, exec (.asr m) s = .next t ∧
      MovedRight8 (readByte (effAddr m.toMem s) s).1 (bit (readByte (effAddr m.toMem s) s).1 7) r t ∧
      Wrote [(effAddr m.toMem s, r)] (readByte (effAddr m.toMem s) s).2 t ∧
      KeepsBut [.flagN, .flagZ, .flagV, .flagC] s t) ∧
    (∃ t, exec .asra s = .next t ∧ MovedRight8 s.a (bit s.a 7) t.a t ∧
      KeepsBut [.a, .flagN, .flagZ, .flagV, .flagC] s t ∧ Wrote [] s t) ∧
    (∃ t, exec .asrb s = .next t ∧ MovedRight8 s.b (bit s.b 7) t.b t ∧
      KeepsBut [.b, .flagN, .flagZ, .flagV, .flagC] s t ∧ Wrote [] s t) ∧
    (∃ t r, exec (.lsr m) s = .next t ∧ MovedRight8 (readByte (effAddr m.toMem s) s).1 false r t ∧
      Wrote [(effAddr m.toMem s, r)] (readByte (effAddr m.toMem s) s).2 t ∧
      KeepsBut [.flagN, .flagZ, .flagV, .flagC] s t) ∧
    (∃ t, exec .lsra s = .next t ∧ MovedRight8 s.a false t.a t ∧
      KeepsBut [.a, .flagN, .flagZ, .flagV, .flagC] s t ∧ Wrote [] s t) ∧
    (∃ t, exec .lsrb s = .next t ∧ MovedRight8 s.b false t.b t ∧
      KeepsBut [.b, .flagN, .flagZ, .flagV, .flagC] s t ∧ Wrote [] s t) ∧
    (∃ t, exec .lsrd s = .next t ∧ MovedRight16 (cat s.a s.b) (cat t.a t.b) t ∧
      KeepsBut [.a, .b, .flagN, .flagZ, .flagV, .flagC] s t ∧ Wrote [] s t) ∧
    (∃ t r, exec (.ror m) s = .next t ∧
      MovedRight8 (readByte (effAddr m.toMem s) s).1 (flagC s.ccr) r t ∧
      Wrote [(effAddr m.toMem s, r)] (readByte (effAddr m.toMem s) s).2 t ∧
      KeepsBut [.flagN, .flagZ, .flagV, .flagC] s t) ∧
    (∃ t, exec .rora s = .next t ∧ MovedRight8 s.a (flagC s.ccr) t.a t ∧
      KeepsBut [.a, .flagN, .flagZ, .flagV, .flagC] s t ∧ Wrote [] s t) ∧
    (∃ t, exec .rorb s = .next t ∧ MovedRight8 s.b (flagC s.ccr) t.b t ∧
      KeepsBut [.b, .flagN, .flagZ, .flagV, .flagC] s t ∧ Wrote [] s t)

/-! ## Branches, jumps and calls -/

/-- The branches on one flag, with BHS and BLO, the second spellings of BCC and BCS (44_branch_jump.md R412 to
R414, R418, R420, R423 to R425, R434, R435, in the frame of R410 and R411). -/
def Obligations.FlagBranches : Prop :=
  RelForm 0x24 .bcc ∧ RelForm 0x25 .bcs ∧ RelForm 0x27 .beq ∧ RelForm 0x2B .bmi ∧ RelForm 0x26 .bne ∧
  RelForm 0x2A .bpl ∧ RelForm 0x28 .bvc ∧ RelForm 0x29 .bvs ∧
  (∀ rr : Byte, encode (.bhs rr) = [0x24, rr] ∧ encode (.blo rr) = [0x25, rr]) ∧
  ∀ (rr : Byte) (s : State),
    (∃ t, exec (.bcc rr) s = .next t ∧ BranchesIf (flagC s.ccr == false) rr s t) ∧
    (∃ t, exec (.bhs rr) s = .next t ∧ BranchesIf (flagC s.ccr == false) rr s t) ∧
    (∃ t, exec (.bcs rr) s = .next t ∧ BranchesIf (flagC s.ccr == true) rr s t) ∧
    (∃ t, exec (.blo rr) s = .next t ∧ BranchesIf (flagC s.ccr == true) rr s t) ∧
    (∃ t, exec (.beq rr) s = .next t ∧ BranchesIf (flagZ s.ccr == true) rr s t) ∧
    (∃ t, exec (.bne rr) s = .next t ∧ BranchesIf (flagZ s.ccr == false) rr s t) ∧
    (∃ t, exec (.bmi rr) s = .next t ∧ BranchesIf (flagN s.ccr == true) rr s t) ∧
    (∃ t, exec (.bpl rr) s = .next t ∧ BranchesIf (flagN s.ccr == false) rr s t) ∧
    (∃ t, exec (.bvs rr) s = .next t ∧ BranchesIf (flagV s.ccr == true) rr s t) ∧
    (∃ t, exec (.bvc rr) s = .next t ∧ BranchesIf (flagV s.ccr == false) rr s t)

/-- The signed and the unsigned comparison branches, BRA, BRN and NOP (44_branch_jump.md R415 to R417, R419,
R421, R422, R426, R427, R443, in the frame of R410 and R411). -/
def Obligations.RelationBranches : Prop :=
  RelForm 0x2C .bge ∧ RelForm 0x2E .bgt ∧ RelForm 0x2F .ble ∧ RelForm 0x2D .blt ∧ RelForm 0x22 .bhi ∧
  RelForm 0x23 .bls ∧ RelForm 0x20 .bra ∧ RelForm 0x21 .brn ∧ Decodes [0x01] .nop ∧
  ∀ (rr : Byte) (s : State),
    (∃ t, exec (.bge rr) s = .next t ∧ BranchesIf (flagN s.ccr == flagV s.ccr) rr s t) ∧
    (∃ t, exec (.blt rr) s = .next t ∧ BranchesIf (flagN s.ccr != flagV s.ccr) rr s t) ∧
    (∃ t, exec (.bgt rr) s = .next t ∧
      BranchesIf (flagZ s.ccr == false && flagN s.ccr == flagV s.ccr) rr s t) ∧
    (∃ t, exec (.ble rr) s = .next t ∧
      BranchesIf (flagZ s.ccr == true || flagN s.ccr != flagV s.ccr) rr s t) ∧
    (∃ t, exec (.bhi rr) s = .next t ∧
      BranchesIf (flagC s.ccr == false && flagZ s.ccr == false) rr s t) ∧
    (∃ t, exec (.bls rr) s = .next t ∧ BranchesIf (flagC s.ccr == true || flagZ s.ccr == true) rr s t) ∧
    (∃ t, exec (.bra rr) s = .next t ∧ BranchesIf true rr s t) ∧
    (∃ t, exec (.brn rr) s = .next t ∧ BranchesIf false rr s t) ∧
    (∃ t, exec .nop s = .next t ∧ KeepsBut [] s t ∧ Wrote [] s t)

/-- BRCLR and BRSET branch when every bit the mask selects is 0, or is 1; memory is read once and never
written (44_branch_jump.md R431, R432). -/
def Obligations.BitBranches : Prop :=
  MaskRelForms [0x13] [0x1F] [0x18, 0x1F] .brclr ∧ MaskRelForms [0x12] [0x1E] [0x18, 0x1E] .brset ∧
  ∀ (m : MemBit) (mm rr : Byte) (s : State),
    (∃ t, exec (.brclr m mm rr) s = .next t ∧ KeepsBut [.pc] s t ∧
      Wrote [] (readByte (effAddr m.toMem s) s).2 t ∧
      ((∀ i, i < 8 → bit mm i = true → bit (readByte (effAddr m.toMem s) s).1 i = false) →
        IsTarget s.pc rr t.pc) ∧
      ((∃ i, i < 8 ∧ bit mm i = true ∧ bit (readByte (effAddr m.toMem s) s).1 i = true) → t.pc = s.pc)) ∧
    (∃ t, exec (.brset m mm rr) s = .next t ∧ KeepsBut [.pc] s t ∧
      Wrote [] (readByte (effAddr m.toMem s) s).2 t ∧
      ((∀ i, i < 8 → bit mm i = true → bit (readByte (effAddr m.toMem s) s).1 i = true) →
        IsTarget s.pc rr t.pc) ∧
      ((∃ i, i < 8 ∧ bit mm i = true ∧ bit (readByte (effAddr m.toMem s) s).1 i = false) → t.pc = s.pc))

/-- JMP, JSR, BSR and RTS; the address saved is PCnext, which PC holds (44_branch_jump.md R433, R441, R442,
R444). -/
def Obligations.JumpsAndCalls : Prop :=
  NoDirForms [0x7E] [0x6E] [0x18, 0x6E] .jmp ∧ MemForms [0x9D] [0xBD] [0xAD] [0x18, 0xAD] .jsr ∧
  RelForm 0x8D .bsr ∧ Decodes [0x39] .rts ∧
  ∀ s : State,
    (∀ m : MemNoDir, ∃ t, exec (.jmp m) s = .next t ∧ t.pc = effAddr m.toMem s ∧ KeepsBut [.pc] s t ∧
      Wrote [] s t) ∧
    (s.mem.wf = true → ∀ m : Mem, ∃ t, exec (.jsr m) s = .next t ∧ t.pc = effAddr m s ∧ t.sp = s.sp - 2 ∧
      Wrote (pushWrites s s.pc) s t ∧ KeepsBut [.sp, .pc] s t) ∧
    (s.mem.wf = true → ∀ rr : Byte, ∃ t, exec (.bsr rr) s = .next t ∧ IsTarget s.pc rr t.pc ∧
      t.sp = s.sp - 2 ∧ Wrote (pushWrites s s.pc) s t ∧ KeepsBut [.sp, .pc] s t) ∧
    (∃ t, exec .rts s = .next t ∧ t.pc = (readWord (s.sp + 1) s).1 ∧ t.sp = s.sp + 2 ∧
      KeepsBut [.sp, .pc] s t ∧ Wrote [] (readWord (s.sp + 1) s).2 t)

/-- After every compare and every subtraction without borrow in, each of the ten comparison branches is taken
exactly when its relation between the register and the operand holds, as unsigned or as signed numbers
(41_arithmetic.md R299 (c)). -/
def Obligations.CompareThenBranch : Prop :=
  (∀ (src : Src8) (s : State),
    (∃ t, exec .cba s = .next t ∧ BranchesAsCompared8 s.a s.b t) ∧
    (∃ t, exec (.cmpa src) s = .next t ∧ BranchesAsCompared8 s.a (operand8 src s) t) ∧
    (∃ t, exec (.cmpb src) s = .next t ∧ BranchesAsCompared8 s.b (operand8 src s) t) ∧
    (∃ t, exec .sba s = .next t ∧ BranchesAsCompared8 s.a s.b t) ∧
    (∃ t, exec (.suba src) s = .next t ∧ BranchesAsCompared8 s.a (operand8 src s) t) ∧
    (∃ t, exec (.subb src) s = .next t ∧ BranchesAsCompared8 s.b (operand8 src s) t)) ∧
  (∀ (src : Src16) (s : State),
    (∃ t, exec (.cpd src) s = .next t ∧ BranchesAsCompared16 (cat s.a s.b) (operand16 src s) t) ∧
    (∃ t, exec (.cpx src) s = .next t ∧ BranchesAsCompared16 s.x (operand16 src s) t) ∧
    (∃ t, exec (.cpy src) s = .next t ∧ BranchesAsCompared16 s.y (operand16 src s) t) ∧
    (∃ t, exec (.subd src) s = .next t ∧ BranchesAsCompared16 (cat s.a s.b) (operand16 src s) t))

/-! ## System instructions -/

/-- SWI enters through VEC_SWI with PCnext stacked, whatever I and X are (45_system.md R463;
60_exceptions.md R502, R510). -/
def Obligations.SoftwareInterrupt : Prop :=
  Decodes [0x3F] .swi ∧
  ∀ s : State, s.mem.wf = true → ∃ t, exec .swi s = .next t ∧ Entered s.params.vecSwi false s.pc s t

/-- WAI stacks the context and waits; STOP does nothing when S is 1 and otherwise stops, nothing stacked
(45_system.md R461, R465; 90_conflicts.md C3, C9). -/
def Obligations.WaitAndStop : Prop :=
  Decodes [0x3E] .wai ∧ Decodes [0xCF] .stop ∧
  ∀ s : State,
    (s.mem.wf = true → ∃ t, exec .wai s = .next t ∧ t.runState = .waiting ∧ t.sp = s.sp - 9 ∧
      Wrote (contextWrites s.pc s) s t ∧ KeepsBut [.sp, .runState] s t) ∧
    (∃ t, exec .stop s = .next t ∧ t.runState = (if flagS s.ccr then s.runState else .stopped) ∧
      KeepsBut [.runState] s t ∧ Wrote [] s t)

/-- RTI: nine bytes pulled from SP + 1 up: CCR (X only from 1 to 0), B, A, X, Y, PC; the inhibit is not set
(45_system.md R460). -/
def Obligations.ReturnFromInterrupt : Prop :=
  Decodes [0x3B] .rti ∧
  ∀ s : State, ∃ t u c b a xh xl yh yl ph pl,
    exec .rti s = .next t ∧ readRun 9 (s.sp + 1) s = ([c, b, a, xh, xl, yh, yl, ph, pl], u) ∧
    flagS t.ccr = flagS c ∧ flagX t.ccr = (flagX s.ccr && flagX c) ∧ flagH t.ccr = flagH c ∧
    flagI t.ccr = flagI c ∧ flagN t.ccr = flagN c ∧ flagZ t.ccr = flagZ c ∧ flagV t.ccr = flagV c ∧
    flagC t.ccr = flagC c ∧ t.b = b ∧ t.a = a ∧ t.x = cat xh xl ∧ t.y = cat yh yl ∧ t.pc = cat ph pl ∧
    t.sp = s.sp + 9 ∧ Wrote [] u t ∧
    KeepsBut [.a, .b, .x, .y, .sp, .pc, .flagS, .flagX, .flagH, .flagI, .flagN, .flagZ, .flagV, .flagC] s t

/-- TEST: outside test mode the illegal-opcode trap or the model fault with the instruction's own address, as
IllegalOpcodePolicy says; in test mode refused (46_absent_from_source.md R480; 60_exceptions.md R503; log 14). -/
def Obligations.TestInstruction : Prop :=
  Decodes [0x00] .test ∧
  ∀ s : State, s.mem.wf = true →
    (s.params.testMode = false → s.params.illegalPolicy = .trap →
      ∃ t, exec .test s = .next t ∧ Entered s.params.vecIllop false (s.pc - 1) s t) ∧
    (s.params.testMode = false → s.params.illegalPolicy = .fault →
      exec .test s = .fault (.illegalOpcode (s.pc - 1))) ∧
    (s.params.testMode = true → exec .test s = .refused .testExecuted)

/-- An exception entry and the RTI after it, on a stack in ram, restore the context: A, B, X, Y, SP, the whole
CCR with I and X, and PC the stacked return address (60_exceptions.md R510, R512). -/
def Obligations.EntryThenReturn : Prop :=
  ∀ (c : Cause) (ret : Word) (s : State), s.mem.wf = true →
    (∀ k : Nat, k < 9 → kindAt s.params (s.sp - BitVec.ofNat 16 k) = .ram) →
    ∃ t, exec .rti (enterInterrupt c ret s) = .next t ∧ t.pc = ret ∧ KeepsBut [.pc] s t ∧
      ∀ w : Word, t.byteAt w = afterWrites s (contextWrites ret s) w

/-! ## The step -/

/-- A map that puts read-sensitive io where the real CPU makes bus cycles that no rule lists is refused: every
step under it is, whatever the state, and no other step is refused so (20_memory.md R85; that the two marks stand
on the regions of the map, and that the refusal is of the whole machine, is the model's reading, log 10). -/
def Obligations.ReadSensitiveMapsRefused : Prop :=
  ∀ s : State, step s = .refused .ioMapRefused ↔
    ∃ r, r ∈ s.params.memMap ∧ r.kind = .io ∧ r.readSensitive = true ∧ r.extraCycles = true

/-- A step runs the decoded instruction: under a map that is not refused, running, with no reset and no interrupt to
take, the bytes at PC, read in ascending order, decode to i and nothing is left over; then the step is i's meaning
in the state after those reads, PC moved past the bytes and the inhibit ended. In ram and rom the bytes read are
those stored and the reads change nothing (00_scope.md R13, R20; 30_encoding.md R112). -/
def Obligations.StepRunsDecoded : Prop :=
  (∀ (s u : State) (n : Nat) (i : Instr), sample s = u → mapRefused u.params = false → u.resetReq = false →
    u.runState = .running → (u.inhibit = true ∨ ∀ r, ¬ Deliverable u r) →
    decode (readRun n u.pc u).1 = .ok i [] →
    step s = exec i (((readRun n u.pc u).2.setPc (u.pc + BitVec.ofNat 16 n)).setInhibit false)) ∧
  ∀ (n : Nat) (a : Word) (s : State), (∀ k : Nat, k < n → Plain s (a + BitVec.ofNat 16 k)) →
    readRun n a s = ((List.range n).map fun k => s.byteAt (a + BitVec.ofNat 16 k), s)

/-- A step at an undefined opcode takes the trap, with the address of the first byte stacked, or stops with the
model fault (60_exceptions.md R503, R511). That the opcode, or the prebyte and the opcode, are the bytes read
before it is the model's reading (log 27), and so is that the trap ends the inhibit, which
70_reset_and_hazards.md R560 says of executing an instruction (log 29). -/
def Obligations.StepAtUndefinedOpcode : Prop :=
  ∀ (s u : State) (page : Page) (op : Byte) (n : Nat), sample s = u → mapRefused u.params = false →
    u.resetReq = false → u.runState = .running → (u.inhibit = true ∨ ∀ r, ¬ Deliverable u r) →
    u.mem.wf = true →
    n = (if page = .p1 then 1 else 2) → decode (readRun n u.pc u).1 = .rejected (.illegalOpcode page op) →
    (u.params.illegalPolicy = .trap → ∃ t, step s = .next t ∧
      Entered u.params.vecIllop false u.pc ((readRun n u.pc u).2.setInhibit false) t) ∧
    (u.params.illegalPolicy = .fault → step s = .fault (.illegalOpcode u.pc))

/-- The environment's requests: the next of the inputs scheduled, or those that stand; reading them changes
nothing else (10_state.md R52; 60_exceptions.md R508; the schedule is the model's, log 5). -/
def Obligations.RequestsSampled : Prop :=
  ∀ s : State, (s.inputs = [] → sample s = s) ∧
    ∀ (e : EnvInput) (rest : List EnvInput), s.inputs = e :: rest →
      (sample s).resetReq = e.reset ∧ (sample s).pending = e.requests ∧ (sample s).inputs = rest ∧
        Sampled s (sample s)

/-- Reset, over everything and in any run state: S = X = I = 1, running, not inhibited, PC from VEC_RESET;
memory is not written and nothing is stacked. A, B, X, Y, SP, H, N, Z, V and C are any value,
the model's choice of the two treatments of R551 (70_reset_and_hazards.md R550, R551, R553; log 4); that memory
keeps every byte, one being written included, is the model's choice too (log 22). -/
def Obligations.ResetStep : Prop :=
  ∀ s u : State, sample s = u → mapRefused u.params = false → u.resetReq = true → ∃ t p, step s = .next t ∧
    flagS t.ccr = true ∧ flagX t.ccr = true ∧ flagI t.ccr = true ∧ t.runState = .running ∧ t.inhibit = false ∧
    SameMemory u p ∧ p.params = u.params ∧ t.pc = (readWord u.params.vecReset p).1 ∧
    SameMemory (readWord u.params.vecReset p).2 t ∧
    t.params = u.params ∧ t.resetReq = u.resetReq ∧ t.pending = u.pending ∧ t.inputs = u.inputs ∧
    (Plain u u.params.vecReset → Plain u (u.params.vecReset + 1) →
      t.pc = cat (u.byteAt u.params.vecReset) (u.byteAt (u.params.vecReset + 1)))

/-- Leaving the stopped state: XIRQ enters, or with X = 1 resumes after STOP; else the first deliverable source
that wakes STOP enters; else the CPU remains stopped (45_system.md R462 (b) to (e); that XIRQ is the source
of that name and that class and then rank order the rest is the model's reading, logs 19 and 20). That the
resumption with X = 1 is a step of its own, which executes no instruction, is the model's reading of R462 (c)
and of 00_scope.md R20 (log 21). -/
def Obligations.StoppedStep : Prop :=
  ∀ s u : State, sample s = u → mapRefused u.params = false → u.resetReq = false → u.runState = .stopped →
    u.mem.wf = true →
    ((∃ r, r ∈ u.params.intSources ∧ r.name = .xirq ∧ .xirq ∈ u.pending) → flagX u.ccr = false →
      ∃ q t, q ∈ u.params.intSources ∧ q.name = .xirq ∧ step s = .next t ∧
        Entered q.vector true u.pc (u.setRunState .running) t) ∧
    ((∃ r, r ∈ u.params.intSources ∧ r.name = .xirq ∧ .xirq ∈ u.pending) → flagX u.ccr = true →
      step s = .next (u.setRunState .running)) ∧
    ((¬ ∃ r, r ∈ u.params.intSources ∧ r.name = .xirq ∧ .xirq ∈ u.pending) →
      ((∃ r, Deliverable u r ∧ r.wakesStop = true) →
        ∃ q t, First (fun r => Deliverable u r ∧ r.wakesStop = true) q ∧ step s = .next t ∧
          Entered q.vector false u.pc (u.setRunState .running) t) ∧
      ((∀ r, Deliverable u r → r.wakesStop = false) → step s = .next u))

/-- Leaving the waiting state: the first deliverable source sets I (and X for XIRQ) and PC takes its vector,
nothing is stacked again; with no deliverable source the CPU remains waiting (45_system.md R466 (b), (c);
the order of the sources and that XIRQ is the source of that name are the model's reading, logs 19 and 20). -/
def Obligations.WaitingStep : Prop :=
  ∀ s u : State, sample s = u → mapRefused u.params = false → u.resetReq = false → u.runState = .waiting →
    ((∃ r, Deliverable u r) → ∃ q t, First (Deliverable u) q ∧ step s = .next t ∧
      VectorTaken q.vector (isXirq q) (u.setRunState .running) t) ∧
    ((∀ r, ¬ Deliverable u r) → step s = .next u)

/-- An asynchronous interrupt is taken between two instructions, with the address of the next instruction
stacked; no instruction is executed in that step (60_exceptions.md R509 to R511, R514; 00_scope.md R20; the order of
the sources is the model's reading, log 19). X is set when the source's name is xirq, where R510 tests that the
vector is VEC_XIRQ: the model's reading, log 20. -/
def Obligations.InterruptStep : Prop :=
  ∀ s u : State, sample s = u → mapRefused u.params = false → u.resetReq = false → u.runState = .running →
    u.inhibit = false → u.mem.wf = true → (∃ r, Deliverable u r) →
    ∃ q t, First (Deliverable u) q ∧ step s = .next t ∧ Entered q.vector (isXirq q) u.pc u t

/-- The one-instruction inhibit: while it is set the next instruction executes whatever is requested and
unmasked, and it is set again only by a CLI or TAP that takes I from 1 to 0
(70_reset_and_hazards.md R560; 10_state.md R53). -/
def Obligations.InhibitOneInstruction : Prop :=
  ∀ (s u : State) (n : Nat) (i : Instr), sample s = u → mapRefused u.params = false → u.resetReq = false →
    u.runState = .running → u.inhibit = true → decode (readRun n u.pc u).1 = .ok i [] →
    step s = exec i (((readRun n u.pc u).2.setPc (u.pc + BitVec.ofNat 16 n)).setInhibit false) ∧
    ∀ t, step s = .next t →
      t.inhibit = (decide (i = .cli ∨ i = .tap) && (flagI u.ccr && !flagI t.ccr))

/-! ## The whole machine -/

/-- No instruction writes a register or a flag that the summary tables do not list for it, and none touches the
environment's requests or the parameters (10_state.md R49, R55, R52). -/
def Obligations.PartsWrittenAsTabled : Prop :=
  ∀ (i : Instr) (s t : State), exec i s = .next t → KeepsBut (writtenParts i) s t

/-- No instruction stores to a byte of memory outside the addresses the table of data accesses gives it
(20_memory.md R81). -/
def Obligations.BytesStoredAsTabled : Prop :=
  ∀ (i : Instr) (s t : State), s.mem.wf = true → exec i s = .next t →
    ∀ w : Word, w ∉ storedAt i s → t.byteAt w = s.byteAt w

/-- X is set only by reset and by the entry to XIRQ: a step that takes X from 0 to 1 is a reset, or XIRQ is
requested and it is XIRQ's entry, whole or after WAI (10_state.md R47; 60_exceptions.md R506; that XIRQ
is the source of that name is the model's reading, log 20). -/
def Obligations.XirqMaskRises : Prop :=
  ∀ s t : State, step s = .next t → flagX s.ccr = false → flagX t.ccr = true →
    (sample s).resetReq = true ∨
    ∃ q p, q ∈ s.params.intSources ∧ q.name = .xirq ∧ .xirq ∈ (sample s).pending ∧
      (p = (sample s).setRunState .running ∨
        p = pushContext s.pc ((sample s).setRunState .running)) ∧
      VectorTaken q.vector true p t

/-- The invariant is kept by every step: memory stays in its canonical form, and the inhibit is set only while
instructions execute with I clear (20_memory.md R70; 10_state.md R53; 70_reset_and_hazards.md R560). -/
def Obligations.InvariantKept : Prop :=
  ∀ s t : State, Inv s → step s = .next t → Inv t

/-- The machine never stops: with the trap policy, outside test mode and under a map that is not refused, no step
faults or is refused, whatever stands in memory and in the registers, and that for ever (60_exceptions.md R504;
30_encoding.md R140; 20_memory.md R85, log 10). -/
def Obligations.NeverStops : Prop :=
  ∀ s : State, s.params.illegalPolicy = .trap → s.params.testMode = false → mapRefused s.params = false → Safe s

/-- The state right after reset: the values the spec gives (10_state.md R56; 70_reset_and_hazards.md R550), PC the
word at the reset vector, the default parameters, and the invariant holds. Every byte of memory is a draw, the
model's choice of the two treatments of 70_reset_and_hazards.md R556 (a) (log 1). -/
def Obligations.ResetState : Prop :=
  flagS State.reset.ccr = true ∧ flagX State.reset.ccr = true ∧ flagI State.reset.ccr = true ∧
  State.reset.runState = .running ∧ State.reset.inhibit = false ∧
  State.reset.pc = cat (State.reset.byteAt 0xFFFE) (State.reset.byteAt 0xFFFF) ∧
  State.reset.params.vecReset = 0xFFFE ∧ State.reset.params.vecSwi = 0xFFF6 ∧
  State.reset.params.vecIllop = 0xFFF8 ∧ (∀ a : Word, kindAt State.reset.params a = .ram) ∧
  State.reset.params.intSources = [⟨.xirq, 0xFFF4, 0, .classX, true⟩, ⟨.irq, 0xFFF2, 1, .classI, true⟩] ∧
  State.reset.params.testMode = false ∧ State.reset.params.illegalPolicy = .trap ∧
  (∀ a : Word, State.reset.byteAt a = Config.powerOnByte a.toNat) ∧ Inv State.reset

/-- The invariant holds at reset (20_memory.md R70; 10_state.md R53). -/
def Obligations.InvariantAtReset : Prop := Inv State.reset
end

