-- ==== Sys2Proof/Laws/Arith.lean ====
section
/-! SUPPORT. The arithmetic helpers in unsigned and signed integers: the bit formulas of 00_scope.md R17 are the
stated conditions, C the unsigned carry or borrow and V the signed overflow. -/

namespace Sys2Proof.Machine

/-! ## The top bit -/

/-- The mask $80 selects the sign. -/
theorem and_sign8 (x : Byte) : (x &&& 0x80 ≠ 0) ↔ x.msb = true := by
  have h : ∀ y : Byte, (y &&& 0x80 ≠ 0) ↔ y.msb = true := by decide
  exact h x

/-- The mask $8000 selects the sign. -/
theorem and_sign16 (x : Word) : (x &&& 0x8000 ≠ 0) ↔ x.msb = true := by
  constructor
  · intro h
    by_contra hm
    refine h (BitVec.eq_of_getLsbD_eq fun i hi => ?_)
    by_cases hi' : i = 15
    · subst hi'
      simp [BitVec.msb_eq_getLsbD_last] at hm
      simp [hm]
    · have : ∀ j : Nat, j < 16 → j ≠ 15 → (0x8000#16).getLsbD j = false := by decide
      simp only [BitVec.getLsbD_and]
      rw [show (0x8000 : BitVec 16) = 0x8000#16 from rfl, this i hi hi']
      simp
  · intro hm h
    have : (x &&& 0x8000).getLsbD 15 = true := by
      rw [BitVec.getLsbD_and]
      rw [BitVec.msb_eq_getLsbD_last] at hm
      simpa using hm
    rw [h] at this
    simp at this

/-- The sign of a byte as an unsigned comparison. -/
theorem msb8 (x : Byte) : x.msb = decide (128 ≤ x.toNat) := by
  rw [BitVec.msb_eq_decide]

/-- The sign of a word as an unsigned comparison. -/
theorem msb16 (x : Word) : x.msb = decide (32768 ≤ x.toNat) := by
  rw [BitVec.msb_eq_decide]

/-- A byte as a signed number. -/
theorem toInt8 (x : Byte) : x.toInt = if 128 ≤ x.toNat then (x.toNat : Int) - 256 else x.toNat := by
  rw [BitVec.toInt_eq_toNat_cond]
  split <;> split <;> omega

/-- A word as a signed number. -/
theorem toInt16 (x : Word) : x.toInt = if 32768 ≤ x.toNat then (x.toNat : Int) - 65536 else x.toNat := by
  rw [BitVec.toInt_eq_toNat_cond]
  split <;> split <;> omega

/-- The low digit of a byte. -/
theorem and_low (x : Byte) : (x &&& 0x0F).toNat = x.toNat % 16 := by
  rw [BitVec.toNat_and]
  exact Nat.and_two_pow_sub_one_eq_mod x.toNat 4

/-- The high digit of a byte. -/
theorem shift_high (x : Byte) : (x >>> 4).toNat = x.toNat / 16 := by
  rw [BitVec.toNat_ushiftRight, Nat.shiftRight_eq_div_pow]

/-! ## 8-bit sums and differences -/

theorem add8_result (a b : Byte) (c : Bool) :
    (add8 a b c).r.toNat = (a.toNat + b.toNat + c.toNat) % 256 := by
  simp [add8]

theorem add8_carry (a b : Byte) (c : Bool) :
    (add8 a b c).cy = decide (255 < a.toNat + b.toNat + c.toNat) := rfl

theorem add8_halfCarry (a b : Byte) (c : Bool) :
    (add8 a b c).h = decide (15 < a.toNat % 16 + b.toNat % 16 + c.toNat) := by
  simp only [add8, and_low]

/-- V is the signed overflow of the sum (00_scope.md R17). -/
theorem add8_overflow (a b : Byte) (c : Bool) :
    (add8 a b c).v = decide (a.toInt + b.toInt + c.toNat < -128 ∨ 127 < a.toInt + b.toInt + c.toNat) := by
  have hr := add8_result a b c
  have ha := a.isLt
  have hb := b.isLt
  have hc : c.toNat ≤ 1 := Bool.toNat_le c
  show decide ((a ^^^ (add8 a b c).r) &&& (b ^^^ (add8 a b c).r) &&& 0x80 ≠ 0) = _
  rw [decide_eq_decide, and_sign8, BitVec.msb_and, BitVec.msb_xor, BitVec.msb_xor, msb8, msb8, msb8, hr,
    toInt8, toInt8]
  simp only [Bool.and_eq_true, bne_iff_ne, ne_eq, decide_eq_decide]
  split <;> split <;> omega

theorem sub8_result (a b : Byte) (c : Bool) :
    ((sub8 a b c).r.toNat : Int) = ((a.toNat : Int) - b.toNat - c.toNat) % 256 := by
  simp only [sub8, BitVec.toNat_ofInt]
  omega

theorem sub8_borrow (a b : Byte) (c : Bool) :
    (sub8 a b c).bw = decide (a.toNat < b.toNat + c.toNat) := by
  simp only [sub8, decide_eq_decide]
  omega

/-- V is the signed overflow of the difference (00_scope.md R17). -/
theorem sub8_overflow (a b : Byte) (c : Bool) :
    (sub8 a b c).v = decide (a.toInt - b.toInt - c.toNat < -128 ∨ 127 < a.toInt - b.toInt - c.toNat) := by
  have hr := sub8_result a b c
  have hl := (sub8 a b c).r.isLt
  have ha := a.isLt
  have hb := b.isLt
  have hc : c.toNat ≤ 1 := Bool.toNat_le c
  show decide ((a ^^^ b) &&& (a ^^^ (sub8 a b c).r) &&& 0x80 ≠ 0) = _
  rw [decide_eq_decide, and_sign8, BitVec.msb_and, BitVec.msb_xor, BitVec.msb_xor, msb8, msb8, msb8,
    toInt8, toInt8]
  simp only [Bool.and_eq_true, bne_iff_ne, ne_eq, decide_eq_decide]
  split <;> split <;> omega

/-! ## 16-bit sums and differences -/

theorem add16_result (a b : Word) : (add16 a b).r.toNat = (a.toNat + b.toNat) % 65536 := by
  simp [add16]

theorem add16_carry (a b : Word) : (add16 a b).cy = decide (65535 < a.toNat + b.toNat) := rfl

/-- V is the signed overflow of the sum (00_scope.md R17). -/
theorem add16_overflow (a b : Word) :
    (add16 a b).v = decide (a.toInt + b.toInt < -32768 ∨ 32767 < a.toInt + b.toInt) := by
  have hr := add16_result a b
  have ha := a.isLt
  have hb := b.isLt
  show decide ((a ^^^ (add16 a b).r) &&& (b ^^^ (add16 a b).r) &&& 0x8000 ≠ 0) = _
  rw [decide_eq_decide, and_sign16, BitVec.msb_and, BitVec.msb_xor, BitVec.msb_xor, msb16, msb16, msb16, hr,
    toInt16, toInt16]
  simp only [Bool.and_eq_true, bne_iff_ne, ne_eq, decide_eq_decide]
  split <;> split <;> omega

theorem sub16_result (a b : Word) :
    ((sub16 a b).r.toNat : Int) = ((a.toNat : Int) - b.toNat) % 65536 := by
  simp only [sub16, BitVec.toNat_ofInt]
  omega

theorem sub16_borrow (a b : Word) : (sub16 a b).cy = decide (a.toNat < b.toNat) := by
  simp only [sub16, decide_eq_decide]
  omega

/-- V is the signed overflow of the difference (00_scope.md R17). -/
theorem sub16_overflow (a b : Word) :
    (sub16 a b).v = decide (a.toInt - b.toInt < -32768 ∨ 32767 < a.toInt - b.toInt) := by
  have hr := sub16_result a b
  have hl := (sub16 a b).r.isLt
  have ha := a.isLt
  have hb := b.isLt
  show decide ((a ^^^ b) &&& (a ^^^ (sub16 a b).r) &&& 0x8000 ≠ 0) = _
  rw [decide_eq_decide, and_sign16, BitVec.msb_and, BitVec.msb_xor, BitVec.msb_xor, msb16, msb16, msb16,
    toInt16, toInt16]
  simp only [Bool.and_eq_true, bne_iff_ne, ne_eq, decide_eq_decide]
  split <;> split <;> omega

end Sys2Proof.Machine
end

