-- ==== Sys2Proof/Laws/Bits.lean ====
section
/-! SUPPORT. Bit fields and flags: what is read after one is written (10_state.md R40), and the two halves of
a word (00_scope.md R10). -/

namespace Sys2Proof.Machine

/-- Bit j of the byte with bit i alone set. -/
theorem getLsbD_one_shiftLeft (i j : Nat) (hj : j < 8) : (1#8 <<< i).getLsbD j = decide (i = j) := by
  rw [BitVec.getLsbD_shiftLeft]
  rcases Nat.lt_trichotomy i j with h | h | h
  · have h₁ : ¬ j < i := by omega
    have h₂ : j - i ≠ 0 := by omega
    have h₃ : i ≠ j := by omega
    simp [BitVec.getLsbD_one, hj, h₁, h₂, h₃]
  · subst h; simp [hj]
  · have h₃ : i ≠ j := by omega
    simp [h, h₃]

/-- Writing a bit changes that bit and no other. -/
theorem bit_putBit (v : Byte) (i j : Nat) (on : Bool) (hj : j < 8) :
    bit (putBit v i on) j = if i = j then on else bit v j := by
  unfold bit putBit
  cases on
  · rw [if_neg (by simp), BitVec.getLsbD_and, BitVec.getLsbD_not, getLsbD_one_shiftLeft i j hj]
    by_cases h : i = j <;> simp [hj, h]
  · rw [if_pos rfl, BitVec.getLsbD_or, getLsbD_one_shiftLeft i j hj]
    by_cases h : i = j <;> simp [h]

/-- Two bytes with equal bits are equal. -/
theorem byte_ext_bits {u v : Byte} (h : ∀ i < 8, bit u i = bit v i) : u = v :=
  BitVec.eq_of_getLsbD_eq fun i hi => h i hi

@[simp] theorem flagC_putC (ccr : Byte) (on : Bool) : flagC (putC ccr on) = on := by
  simp [flagC, putC, bit_putBit]

@[simp] theorem flagV_putC (ccr : Byte) (on : Bool) : flagV (putC ccr on) = flagV ccr := by
  simp [flagV, putC, bit_putBit]

@[simp] theorem flagZ_putC (ccr : Byte) (on : Bool) : flagZ (putC ccr on) = flagZ ccr := by
  simp [flagZ, putC, bit_putBit]

@[simp] theorem flagN_putC (ccr : Byte) (on : Bool) : flagN (putC ccr on) = flagN ccr := by
  simp [flagN, putC, bit_putBit]

@[simp] theorem flagI_putC (ccr : Byte) (on : Bool) : flagI (putC ccr on) = flagI ccr := by
  simp [flagI, putC, bit_putBit]

@[simp] theorem flagH_putC (ccr : Byte) (on : Bool) : flagH (putC ccr on) = flagH ccr := by
  simp [flagH, putC, bit_putBit]

@[simp] theorem flagX_putC (ccr : Byte) (on : Bool) : flagX (putC ccr on) = flagX ccr := by
  simp [flagX, putC, bit_putBit]

@[simp] theorem flagS_putC (ccr : Byte) (on : Bool) : flagS (putC ccr on) = flagS ccr := by
  simp [flagS, putC, bit_putBit]

@[simp] theorem flagC_putV (ccr : Byte) (on : Bool) : flagC (putV ccr on) = flagC ccr := by
  simp [flagC, putV, bit_putBit]

@[simp] theorem flagV_putV (ccr : Byte) (on : Bool) : flagV (putV ccr on) = on := by
  simp [flagV, putV, bit_putBit]

@[simp] theorem flagZ_putV (ccr : Byte) (on : Bool) : flagZ (putV ccr on) = flagZ ccr := by
  simp [flagZ, putV, bit_putBit]

@[simp] theorem flagN_putV (ccr : Byte) (on : Bool) : flagN (putV ccr on) = flagN ccr := by
  simp [flagN, putV, bit_putBit]

@[simp] theorem flagI_putV (ccr : Byte) (on : Bool) : flagI (putV ccr on) = flagI ccr := by
  simp [flagI, putV, bit_putBit]

@[simp] theorem flagH_putV (ccr : Byte) (on : Bool) : flagH (putV ccr on) = flagH ccr := by
  simp [flagH, putV, bit_putBit]

@[simp] theorem flagX_putV (ccr : Byte) (on : Bool) : flagX (putV ccr on) = flagX ccr := by
  simp [flagX, putV, bit_putBit]

@[simp] theorem flagS_putV (ccr : Byte) (on : Bool) : flagS (putV ccr on) = flagS ccr := by
  simp [flagS, putV, bit_putBit]

@[simp] theorem flagC_putZ (ccr : Byte) (on : Bool) : flagC (putZ ccr on) = flagC ccr := by
  simp [flagC, putZ, bit_putBit]

@[simp] theorem flagV_putZ (ccr : Byte) (on : Bool) : flagV (putZ ccr on) = flagV ccr := by
  simp [flagV, putZ, bit_putBit]

@[simp] theorem flagZ_putZ (ccr : Byte) (on : Bool) : flagZ (putZ ccr on) = on := by
  simp [flagZ, putZ, bit_putBit]

@[simp] theorem flagN_putZ (ccr : Byte) (on : Bool) : flagN (putZ ccr on) = flagN ccr := by
  simp [flagN, putZ, bit_putBit]

@[simp] theorem flagI_putZ (ccr : Byte) (on : Bool) : flagI (putZ ccr on) = flagI ccr := by
  simp [flagI, putZ, bit_putBit]

@[simp] theorem flagH_putZ (ccr : Byte) (on : Bool) : flagH (putZ ccr on) = flagH ccr := by
  simp [flagH, putZ, bit_putBit]

@[simp] theorem flagX_putZ (ccr : Byte) (on : Bool) : flagX (putZ ccr on) = flagX ccr := by
  simp [flagX, putZ, bit_putBit]

@[simp] theorem flagS_putZ (ccr : Byte) (on : Bool) : flagS (putZ ccr on) = flagS ccr := by
  simp [flagS, putZ, bit_putBit]

@[simp] theorem flagC_putN (ccr : Byte) (on : Bool) : flagC (putN ccr on) = flagC ccr := by
  simp [flagC, putN, bit_putBit]

@[simp] theorem flagV_putN (ccr : Byte) (on : Bool) : flagV (putN ccr on) = flagV ccr := by
  simp [flagV, putN, bit_putBit]

@[simp] theorem flagZ_putN (ccr : Byte) (on : Bool) : flagZ (putN ccr on) = flagZ ccr := by
  simp [flagZ, putN, bit_putBit]

@[simp] theorem flagN_putN (ccr : Byte) (on : Bool) : flagN (putN ccr on) = on := by
  simp [flagN, putN, bit_putBit]

@[simp] theorem flagI_putN (ccr : Byte) (on : Bool) : flagI (putN ccr on) = flagI ccr := by
  simp [flagI, putN, bit_putBit]

@[simp] theorem flagH_putN (ccr : Byte) (on : Bool) : flagH (putN ccr on) = flagH ccr := by
  simp [flagH, putN, bit_putBit]

@[simp] theorem flagX_putN (ccr : Byte) (on : Bool) : flagX (putN ccr on) = flagX ccr := by
  simp [flagX, putN, bit_putBit]

@[simp] theorem flagS_putN (ccr : Byte) (on : Bool) : flagS (putN ccr on) = flagS ccr := by
  simp [flagS, putN, bit_putBit]

@[simp] theorem flagC_putI (ccr : Byte) (on : Bool) : flagC (putI ccr on) = flagC ccr := by
  simp [flagC, putI, bit_putBit]

@[simp] theorem flagV_putI (ccr : Byte) (on : Bool) : flagV (putI ccr on) = flagV ccr := by
  simp [flagV, putI, bit_putBit]

@[simp] theorem flagZ_putI (ccr : Byte) (on : Bool) : flagZ (putI ccr on) = flagZ ccr := by
  simp [flagZ, putI, bit_putBit]

@[simp] theorem flagN_putI (ccr : Byte) (on : Bool) : flagN (putI ccr on) = flagN ccr := by
  simp [flagN, putI, bit_putBit]

@[simp] theorem flagI_putI (ccr : Byte) (on : Bool) : flagI (putI ccr on) = on := by
  simp [flagI, putI, bit_putBit]

@[simp] theorem flagH_putI (ccr : Byte) (on : Bool) : flagH (putI ccr on) = flagH ccr := by
  simp [flagH, putI, bit_putBit]

@[simp] theorem flagX_putI (ccr : Byte) (on : Bool) : flagX (putI ccr on) = flagX ccr := by
  simp [flagX, putI, bit_putBit]

@[simp] theorem flagS_putI (ccr : Byte) (on : Bool) : flagS (putI ccr on) = flagS ccr := by
  simp [flagS, putI, bit_putBit]

@[simp] theorem flagC_putH (ccr : Byte) (on : Bool) : flagC (putH ccr on) = flagC ccr := by
  simp [flagC, putH, bit_putBit]

@[simp] theorem flagV_putH (ccr : Byte) (on : Bool) : flagV (putH ccr on) = flagV ccr := by
  simp [flagV, putH, bit_putBit]

@[simp] theorem flagZ_putH (ccr : Byte) (on : Bool) : flagZ (putH ccr on) = flagZ ccr := by
  simp [flagZ, putH, bit_putBit]

@[simp] theorem flagN_putH (ccr : Byte) (on : Bool) : flagN (putH ccr on) = flagN ccr := by
  simp [flagN, putH, bit_putBit]

@[simp] theorem flagI_putH (ccr : Byte) (on : Bool) : flagI (putH ccr on) = flagI ccr := by
  simp [flagI, putH, bit_putBit]

@[simp] theorem flagH_putH (ccr : Byte) (on : Bool) : flagH (putH ccr on) = on := by
  simp [flagH, putH, bit_putBit]

@[simp] theorem flagX_putH (ccr : Byte) (on : Bool) : flagX (putH ccr on) = flagX ccr := by
  simp [flagX, putH, bit_putBit]

@[simp] theorem flagS_putH (ccr : Byte) (on : Bool) : flagS (putH ccr on) = flagS ccr := by
  simp [flagS, putH, bit_putBit]

@[simp] theorem flagC_putX (ccr : Byte) (on : Bool) : flagC (putX ccr on) = flagC ccr := by
  simp [flagC, putX, bit_putBit]

@[simp] theorem flagV_putX (ccr : Byte) (on : Bool) : flagV (putX ccr on) = flagV ccr := by
  simp [flagV, putX, bit_putBit]

@[simp] theorem flagZ_putX (ccr : Byte) (on : Bool) : flagZ (putX ccr on) = flagZ ccr := by
  simp [flagZ, putX, bit_putBit]

@[simp] theorem flagN_putX (ccr : Byte) (on : Bool) : flagN (putX ccr on) = flagN ccr := by
  simp [flagN, putX, bit_putBit]

@[simp] theorem flagI_putX (ccr : Byte) (on : Bool) : flagI (putX ccr on) = flagI ccr := by
  simp [flagI, putX, bit_putBit]

@[simp] theorem flagH_putX (ccr : Byte) (on : Bool) : flagH (putX ccr on) = flagH ccr := by
  simp [flagH, putX, bit_putBit]

@[simp] theorem flagX_putX (ccr : Byte) (on : Bool) : flagX (putX ccr on) = on := by
  simp [flagX, putX, bit_putBit]

@[simp] theorem flagS_putX (ccr : Byte) (on : Bool) : flagS (putX ccr on) = flagS ccr := by
  simp [flagS, putX, bit_putBit]

@[simp] theorem flagC_putS (ccr : Byte) (on : Bool) : flagC (putS ccr on) = flagC ccr := by
  simp [flagC, putS, bit_putBit]

@[simp] theorem flagV_putS (ccr : Byte) (on : Bool) : flagV (putS ccr on) = flagV ccr := by
  simp [flagV, putS, bit_putBit]

@[simp] theorem flagZ_putS (ccr : Byte) (on : Bool) : flagZ (putS ccr on) = flagZ ccr := by
  simp [flagZ, putS, bit_putBit]

@[simp] theorem flagN_putS (ccr : Byte) (on : Bool) : flagN (putS ccr on) = flagN ccr := by
  simp [flagN, putS, bit_putBit]

@[simp] theorem flagI_putS (ccr : Byte) (on : Bool) : flagI (putS ccr on) = flagI ccr := by
  simp [flagI, putS, bit_putBit]

@[simp] theorem flagH_putS (ccr : Byte) (on : Bool) : flagH (putS ccr on) = flagH ccr := by
  simp [flagH, putS, bit_putBit]

@[simp] theorem flagX_putS (ccr : Byte) (on : Bool) : flagX (putS ccr on) = flagX ccr := by
  simp [flagX, putS, bit_putBit]

@[simp] theorem flagS_putS (ccr : Byte) (on : Bool) : flagS (putS ccr on) = on := by
  simp [flagS, putS, bit_putBit]

/-- Bit i of `h : l`. -/
theorem getLsbD_cat (h l : Byte) (i : Nat) :
    (cat h l).getLsbD i = if i < 8 then l.getLsbD i else h.getLsbD (i - 8) := BitVec.getLsbD_append

@[simp] theorem hi_cat (h l : Byte) : hi (cat h l) = h :=
  BitVec.eq_of_getLsbD_eq fun i hi' => by
    rw [hi, BitVec.getLsbD_extractLsb', getLsbD_cat]
    simp [hi']

@[simp] theorem lo_cat (h l : Byte) : lo (cat h l) = l :=
  BitVec.eq_of_getLsbD_eq fun i hi' => by
    rw [lo, BitVec.getLsbD_extractLsb', getLsbD_cat]
    simp [hi']

@[simp] theorem cat_hi_lo (v : Word) : cat (hi v) (lo v) = v :=
  BitVec.eq_of_getLsbD_eq fun i hi' => by
    rw [getLsbD_cat, hi, lo, BitVec.getLsbD_extractLsb', BitVec.getLsbD_extractLsb']
    split
    · simp [*]
    · have h₁ : i - 8 < 8 := by omega
      have h₂ : 8 + (i - 8) = i := by omega
      simp [h₁, h₂]

end Sys2Proof.Machine
end

