-- ==== Sys2Proof/Laws/Flags.lean ====
section
/-! SUPPORT. The flag packers, flag by flag: what each writes and what it leaves (00_scope.md R16;
43_shift_rotate.md R369 (d)). -/

namespace Sys2Proof.Machine

variable (ccr : Byte)

/-! ## Eight bits -/

@[simp] theorem flagS_nz8 (r : Byte) : flagS (nz8 ccr r) = flagS ccr := by
  simp [nz8]
@[simp] theorem flagX_nz8 (r : Byte) : flagX (nz8 ccr r) = flagX ccr := by
  simp [nz8]
@[simp] theorem flagH_nz8 (r : Byte) : flagH (nz8 ccr r) = flagH ccr := by
  simp [nz8]
@[simp] theorem flagI_nz8 (r : Byte) : flagI (nz8 ccr r) = flagI ccr := by
  simp [nz8]
@[simp] theorem flagN_nz8 (r : Byte) : flagN (nz8 ccr r) = bit r 7 := by
  simp [nz8]
@[simp] theorem flagZ_nz8 (r : Byte) : flagZ (nz8 ccr r) = decide (r = 0) := by
  simp [nz8]
@[simp] theorem flagV_nz8 (r : Byte) : flagV (nz8 ccr r) = flagV ccr := by
  simp [nz8]
@[simp] theorem flagC_nz8 (r : Byte) : flagC (nz8 ccr r) = flagC ccr := by
  simp [nz8]

@[simp] theorem flagS_nzvc8 (r : Byte) (v c : Bool) : flagS (nzvc8 ccr r v c) = flagS ccr := by
  simp [nzvc8]
@[simp] theorem flagX_nzvc8 (r : Byte) (v c : Bool) : flagX (nzvc8 ccr r v c) = flagX ccr := by
  simp [nzvc8]
@[simp] theorem flagH_nzvc8 (r : Byte) (v c : Bool) : flagH (nzvc8 ccr r v c) = flagH ccr := by
  simp [nzvc8]
@[simp] theorem flagI_nzvc8 (r : Byte) (v c : Bool) : flagI (nzvc8 ccr r v c) = flagI ccr := by
  simp [nzvc8]
@[simp] theorem flagN_nzvc8 (r : Byte) (v c : Bool) : flagN (nzvc8 ccr r v c) = bit r 7 := by
  simp [nzvc8]
@[simp] theorem flagZ_nzvc8 (r : Byte) (v c : Bool) : flagZ (nzvc8 ccr r v c) = decide (r = 0) := by
  simp [nzvc8]
@[simp] theorem flagV_nzvc8 (r : Byte) (v c : Bool) : flagV (nzvc8 ccr r v c) = v := by
  simp [nzvc8]
@[simp] theorem flagC_nzvc8 (r : Byte) (v c : Bool) : flagC (nzvc8 ccr r v c) = c := by
  simp [nzvc8]

@[simp] theorem flagS_moveFlags8 (r : Byte) : flagS (moveFlags8 ccr r) = flagS ccr := by
  simp [moveFlags8]
@[simp] theorem flagX_moveFlags8 (r : Byte) : flagX (moveFlags8 ccr r) = flagX ccr := by
  simp [moveFlags8]
@[simp] theorem flagH_moveFlags8 (r : Byte) : flagH (moveFlags8 ccr r) = flagH ccr := by
  simp [moveFlags8]
@[simp] theorem flagI_moveFlags8 (r : Byte) : flagI (moveFlags8 ccr r) = flagI ccr := by
  simp [moveFlags8]
@[simp] theorem flagN_moveFlags8 (r : Byte) : flagN (moveFlags8 ccr r) = bit r 7 := by
  simp [moveFlags8]
@[simp] theorem flagZ_moveFlags8 (r : Byte) : flagZ (moveFlags8 ccr r) = decide (r = 0) := by
  simp [moveFlags8]
@[simp] theorem flagV_moveFlags8 (r : Byte) : flagV (moveFlags8 ccr r) = false := by
  simp [moveFlags8]
@[simp] theorem flagC_moveFlags8 (r : Byte) : flagC (moveFlags8 ccr r) = flagC ccr := by
  simp [moveFlags8]

@[simp] theorem flagS_shiftFlags8 (r : Byte) (c : Bool) : flagS (shiftFlags8 ccr r c) = flagS ccr := by
  simp [shiftFlags8]
@[simp] theorem flagX_shiftFlags8 (r : Byte) (c : Bool) : flagX (shiftFlags8 ccr r c) = flagX ccr := by
  simp [shiftFlags8]
@[simp] theorem flagH_shiftFlags8 (r : Byte) (c : Bool) : flagH (shiftFlags8 ccr r c) = flagH ccr := by
  simp [shiftFlags8]
@[simp] theorem flagI_shiftFlags8 (r : Byte) (c : Bool) : flagI (shiftFlags8 ccr r c) = flagI ccr := by
  simp [shiftFlags8]
@[simp] theorem flagN_shiftFlags8 (r : Byte) (c : Bool) : flagN (shiftFlags8 ccr r c) = bit r 7 := by
  simp [shiftFlags8]
@[simp] theorem flagZ_shiftFlags8 (r : Byte) (c : Bool) : flagZ (shiftFlags8 ccr r c) = decide (r = 0) := by
  simp [shiftFlags8]
@[simp] theorem flagV_shiftFlags8 (r : Byte) (c : Bool) : flagV (shiftFlags8 ccr r c) = (bit r 7 ^^ c) := by
  simp [shiftFlags8]
@[simp] theorem flagC_shiftFlags8 (r : Byte) (c : Bool) : flagC (shiftFlags8 ccr r c) = c := by
  simp [shiftFlags8]

@[simp] theorem flagS_tstFlags (r : Byte) : flagS (tstFlags ccr r) = flagS ccr := by
  simp [tstFlags]
@[simp] theorem flagX_tstFlags (r : Byte) : flagX (tstFlags ccr r) = flagX ccr := by
  simp [tstFlags]
@[simp] theorem flagH_tstFlags (r : Byte) : flagH (tstFlags ccr r) = flagH ccr := by
  simp [tstFlags]
@[simp] theorem flagI_tstFlags (r : Byte) : flagI (tstFlags ccr r) = flagI ccr := by
  simp [tstFlags]
@[simp] theorem flagN_tstFlags (r : Byte) : flagN (tstFlags ccr r) = bit r 7 := by
  simp [tstFlags]
@[simp] theorem flagZ_tstFlags (r : Byte) : flagZ (tstFlags ccr r) = decide (r = 0) := by
  simp [tstFlags]
@[simp] theorem flagV_tstFlags (r : Byte) : flagV (tstFlags ccr r) = false := by
  simp [tstFlags]
@[simp] theorem flagC_tstFlags (r : Byte) : flagC (tstFlags ccr r) = false := by
  simp [tstFlags]

/-! ## Sixteen bits -/

@[simp] theorem flagS_nz16 (r : Word) : flagS (nz16 ccr r) = flagS ccr := by
  simp [nz16]
@[simp] theorem flagX_nz16 (r : Word) : flagX (nz16 ccr r) = flagX ccr := by
  simp [nz16]
@[simp] theorem flagH_nz16 (r : Word) : flagH (nz16 ccr r) = flagH ccr := by
  simp [nz16]
@[simp] theorem flagI_nz16 (r : Word) : flagI (nz16 ccr r) = flagI ccr := by
  simp [nz16]
@[simp] theorem flagN_nz16 (r : Word) : flagN (nz16 ccr r) = r.getLsbD 15 := by
  simp [nz16]
@[simp] theorem flagZ_nz16 (r : Word) : flagZ (nz16 ccr r) = decide (r = 0) := by
  simp [nz16]
@[simp] theorem flagV_nz16 (r : Word) : flagV (nz16 ccr r) = flagV ccr := by
  simp [nz16]
@[simp] theorem flagC_nz16 (r : Word) : flagC (nz16 ccr r) = flagC ccr := by
  simp [nz16]

@[simp] theorem flagS_nzvc16 (r : Word) (v c : Bool) : flagS (nzvc16 ccr r v c) = flagS ccr := by
  simp [nzvc16]
@[simp] theorem flagX_nzvc16 (r : Word) (v c : Bool) : flagX (nzvc16 ccr r v c) = flagX ccr := by
  simp [nzvc16]
@[simp] theorem flagH_nzvc16 (r : Word) (v c : Bool) : flagH (nzvc16 ccr r v c) = flagH ccr := by
  simp [nzvc16]
@[simp] theorem flagI_nzvc16 (r : Word) (v c : Bool) : flagI (nzvc16 ccr r v c) = flagI ccr := by
  simp [nzvc16]
@[simp] theorem flagN_nzvc16 (r : Word) (v c : Bool) : flagN (nzvc16 ccr r v c) = r.getLsbD 15 := by
  simp [nzvc16]
@[simp] theorem flagZ_nzvc16 (r : Word) (v c : Bool) : flagZ (nzvc16 ccr r v c) = decide (r = 0) := by
  simp [nzvc16]
@[simp] theorem flagV_nzvc16 (r : Word) (v c : Bool) : flagV (nzvc16 ccr r v c) = v := by
  simp [nzvc16]
@[simp] theorem flagC_nzvc16 (r : Word) (v c : Bool) : flagC (nzvc16 ccr r v c) = c := by
  simp [nzvc16]

@[simp] theorem flagS_moveFlags16 (r : Word) : flagS (moveFlags16 ccr r) = flagS ccr := by
  simp [moveFlags16]
@[simp] theorem flagX_moveFlags16 (r : Word) : flagX (moveFlags16 ccr r) = flagX ccr := by
  simp [moveFlags16]
@[simp] theorem flagH_moveFlags16 (r : Word) : flagH (moveFlags16 ccr r) = flagH ccr := by
  simp [moveFlags16]
@[simp] theorem flagI_moveFlags16 (r : Word) : flagI (moveFlags16 ccr r) = flagI ccr := by
  simp [moveFlags16]
@[simp] theorem flagN_moveFlags16 (r : Word) : flagN (moveFlags16 ccr r) = r.getLsbD 15 := by
  simp [moveFlags16]
@[simp] theorem flagZ_moveFlags16 (r : Word) : flagZ (moveFlags16 ccr r) = decide (r = 0) := by
  simp [moveFlags16]
@[simp] theorem flagV_moveFlags16 (r : Word) : flagV (moveFlags16 ccr r) = false := by
  simp [moveFlags16]
@[simp] theorem flagC_moveFlags16 (r : Word) : flagC (moveFlags16 ccr r) = flagC ccr := by
  simp [moveFlags16]

@[simp] theorem flagS_shiftFlags16 (r : Word) (c : Bool) : flagS (shiftFlags16 ccr r c) = flagS ccr := by
  simp [shiftFlags16]
@[simp] theorem flagX_shiftFlags16 (r : Word) (c : Bool) : flagX (shiftFlags16 ccr r c) = flagX ccr := by
  simp [shiftFlags16]
@[simp] theorem flagH_shiftFlags16 (r : Word) (c : Bool) : flagH (shiftFlags16 ccr r c) = flagH ccr := by
  simp [shiftFlags16]
@[simp] theorem flagI_shiftFlags16 (r : Word) (c : Bool) : flagI (shiftFlags16 ccr r c) = flagI ccr := by
  simp [shiftFlags16]
@[simp] theorem flagN_shiftFlags16 (r : Word) (c : Bool) : flagN (shiftFlags16 ccr r c) = r.getLsbD 15 := by
  simp [shiftFlags16]
@[simp] theorem flagZ_shiftFlags16 (r : Word) (c : Bool) : flagZ (shiftFlags16 ccr r c) = decide (r = 0) := by
  simp [shiftFlags16]
@[simp] theorem flagV_shiftFlags16 (r : Word) (c : Bool) : flagV (shiftFlags16 ccr r c) = (r.getLsbD 15 ^^ c) := by
  simp [shiftFlags16]
@[simp] theorem flagC_shiftFlags16 (r : Word) (c : Bool) : flagC (shiftFlags16 ccr r c) = c := by
  simp [shiftFlags16]

/-! ## The loads of the whole CCR -/

@[simp] theorem flagS_loadCcr (new : Byte) : flagS (loadCcr ccr new) = flagS new := by
  simp [loadCcr]
@[simp] theorem flagX_loadCcr (new : Byte) : flagX (loadCcr ccr new) = (flagX ccr && flagX new) := by
  simp [loadCcr]
@[simp] theorem flagH_loadCcr (new : Byte) : flagH (loadCcr ccr new) = flagH new := by
  simp [loadCcr]
@[simp] theorem flagI_loadCcr (new : Byte) : flagI (loadCcr ccr new) = flagI new := by
  simp [loadCcr]
@[simp] theorem flagN_loadCcr (new : Byte) : flagN (loadCcr ccr new) = flagN new := by
  simp [loadCcr]
@[simp] theorem flagZ_loadCcr (new : Byte) : flagZ (loadCcr ccr new) = flagZ new := by
  simp [loadCcr]
@[simp] theorem flagV_loadCcr (new : Byte) : flagV (loadCcr ccr new) = flagV new := by
  simp [loadCcr]
@[simp] theorem flagC_loadCcr (new : Byte) : flagC (loadCcr ccr new) = flagC new := by
  simp [loadCcr]

end Sys2Proof.Machine
end

