-- ==== Sys2Proof/Laws/Memory.lean ====
section
/-! SUPPORT. Memory: what a read gives after a write, and the canonical form kept (20_memory.md R70 to R75). -/

namespace Sys2Proof.Machine

/-! ## The canonical form -/

/-- A list canonical from an address up is canonical from any lower one. -/
theorem Memory.wfFrom_mono {least least' : Nat} {m : Memory} (hle : least' ≤ least)
    (h : Memory.wfFrom least m = true) : Memory.wfFrom least' m = true := by
  cases m with
  | nil => rfl
  | cons c rest =>
    obtain ⟨k, w⟩ := c
    simp only [Memory.wfFrom, Bool.and_eq_true, decide_eq_true_eq] at h ⊢
    exact ⟨⟨hle.trans h.1.1, h.1.2⟩, h.2⟩

/-- Below the first entry every address reads as an unlisted one. -/
theorem Memory.read_below {least a : Nat} {m : Memory} (h : Memory.wfFrom least m = true) (ha : a < least) :
    Memory.read m a = Memory.unlisted a := by
  cases m with
  | nil => rfl
  | cons c rest =>
    obtain ⟨k, w⟩ := c
    simp only [Memory.wfFrom, Bool.and_eq_true, decide_eq_true_eq] at h
    have h₁ : a ≠ k := by omega
    have h₂ : a < k := by omega
    simp [Memory.read, h₁, h₂]

/-- An entry put in front of a canonical list that lies above it keeps the canonical form. -/
theorem Memory.cons_wf {least a : Nat} {v : Byte} {rest : Memory} (hl : least ≤ a) (ha : a < 65536)
    (h : Memory.wfFrom (a + 1) rest = true) : Memory.wfFrom least ((a, v) :: rest) = true := by
  simp [Memory.wfFrom, hl, ha, h]

/-- What is read after an entry is put in front of a list that lies above it. -/
theorem Memory.read_cons {a b : Nat} {v : Byte} {rest : Memory} (h : Memory.wfFrom (a + 1) rest = true) :
    Memory.read ((a, v) :: rest) b = if b = a then v else Memory.read rest b := by
  by_cases hlt : b < a
  · simp [Memory.read, hlt, Memory.read_below h (by omega : b < a + 1)]
  · simp [Memory.read, hlt]

/-- A write keeps the canonical form. -/
theorem Memory.write_wfFrom {a : Nat} {v : Byte} (ha : a < 65536) :
    ∀ (m : Memory) (least : Nat), least ≤ a → Memory.wfFrom least m = true →
      Memory.wfFrom least (Memory.write m a v) = true
  | [], _, hl, _ => Memory.cons_wf hl ha rfl
  | (k, w) :: rest, least, hl, h => by
    have hk := h
    simp only [Memory.wfFrom, Bool.and_eq_true, decide_eq_true_eq] at hk
    unfold Memory.write
    split
    · exact Memory.cons_wf hl ha (Memory.cons_wf (by omega) hk.1.2 hk.2)
    · split
      · rename_i he
        exact Memory.cons_wf hl ha (he ▸ hk.2)
      · exact Memory.cons_wf hk.1.1 hk.1.2 (Memory.write_wfFrom ha rest (k + 1) (by omega) hk.2)

/-- A write at an address keeps the canonical form (20_memory.md R70). -/
theorem Memory.write_wf {m : Memory} (h : m.wf = true) (a : Word) (v : Byte) :
    (m.write a.toNat v).wf = true :=
  Memory.write_wfFrom a.isLt m 0 (Nat.zero_le _) h

/-- What is read after a write, in a canonical list. -/
theorem Memory.read_write_from {a : Nat} {v : Byte} (b : Nat) :
    ∀ (m : Memory) (least : Nat), Memory.wfFrom least m = true →
      Memory.read (Memory.write m a v) b = if b = a then v else Memory.read m b
  | [], _, _ => Memory.read_cons rfl
  | (k, w) :: rest, least, h => by
    have hk := h
    simp only [Memory.wfFrom, Bool.and_eq_true, decide_eq_true_eq] at hk
    unfold Memory.write
    split
    · exact Memory.read_cons (Memory.cons_wf (by omega) hk.1.2 hk.2)
    · split
      · rename_i he
        subst he
        rw [Memory.read_cons hk.2, Memory.read_cons hk.2]
        by_cases hb : b = a <;> simp [hb]
      · rename_i hlt hne
        by_cases hbk : b = k
        · have hba : b ≠ a := by omega
          simp only [Memory.read, if_pos hbk, if_neg hba]
        · by_cases hbl : b < k
          · have hba : b ≠ a := by omega
            simp only [Memory.read, if_neg hbk, if_pos hbl, if_neg hba]
          · simp only [Memory.read, if_neg hbk, if_neg hbl]
            exact Memory.read_write_from b rest (k + 1) hk.2

/-- A read after a write gives the byte written at its address, and elsewhere what it gave before
(20_memory.md R74). -/
theorem Memory.read_write {m : Memory} (h : m.wf = true) (a b : Nat) (v : Byte) :
    Memory.read (Memory.write m a v) b = if b = a then v else Memory.read m b :=
  Memory.read_write_from b m 0 h

/-- The memory right after reset is canonical. -/
theorem reset_mem_wf : State.reset.mem.wf = true := rfl

/-! ## One byte -/

/-- All a byte read can do: the byte at the address and no change (ram, rom); or an answer of the environment,
logged (io); or a free value (unmapped) (20_memory.md R72). -/
theorem readByte_cases (a : Word) (s : State) :
    ((kindAt s.params a = .ram ∨ kindAt s.params a = .rom) ∧ readByte a s = (s.byteAt a, s)) ∨
    (kindAt s.params a = .io ∧ readByte a s = (Config.ioRead s.draws a,
      (s.setDraws (s.draws + 1)).setIoLog (.read a (Config.ioRead s.draws a) :: s.ioLog))) ∨
    (kindAt s.params a = .unmapped ∧
      readByte a s = (Config.unmappedRead s.draws, s.setDraws (s.draws + 1))) := by
  unfold readByte
  cases h : kindAt s.params a <;> simp

/-- All a byte write can do (20_memory.md R74). -/
theorem writeByte_cases (a : Word) (v : Byte) (s : State) :
    (kindAt s.params a = .ram ∧ writeByte a v s = s.setMem (s.mem.write a.toNat v)) ∨
    ((kindAt s.params a = .rom ∨ kindAt s.params a = .unmapped) ∧ writeByte a v s = s) ∨
    (kindAt s.params a = .io ∧ writeByte a v s = s.setIoLog (.write a v :: s.ioLog)) := by
  unfold writeByte
  cases h : kindAt s.params a <;> simp

/-- A read changes at most the count of free values and the io log. -/
theorem readByte_state (a : Word) (s : State) :
    (readByte a s).2 = (s.setDraws (readByte a s).2.draws).setIoLog (readByte a s).2.ioLog := by
  rcases readByte_cases a s with ⟨_, h⟩ | ⟨_, h⟩ | ⟨_, h⟩ <;> rw [h] <;> rfl

/-- A write changes at most memory and the io log. -/
theorem writeByte_state (a : Word) (v : Byte) (s : State) :
    writeByte a v s = (s.setMem (writeByte a v s).mem).setIoLog (writeByte a v s).ioLog := by
  rcases writeByte_cases a v s with ⟨_, h⟩ | ⟨_, h⟩ | ⟨_, h⟩ <;> rw [h] <;> rfl

/-- The bytes of memory after a write (20_memory.md R74). -/
theorem writeByte_byteAt {s : State} (h : s.mem.wf = true) (a : Word) (v : Byte) (w : Word) :
    (writeByte a v s).byteAt w = if w = a ∧ kindAt s.params a = .ram then v else s.byteAt w := by
  rcases writeByte_cases a v s with ⟨hk, e⟩ | ⟨hk, e⟩ | ⟨hk, e⟩
  · rw [e]
    show Memory.read (Memory.write s.mem a.toNat v) w.toNat = _
    rw [Memory.read_write h]
    simp [hk, BitVec.toNat_inj, State.byteAt]
  · rw [e]
    rcases hk with hk | hk <;> simp [hk]
  · rw [e]
    simp [hk, State.byteAt, State.setIoLog]

/-- A write keeps the canonical form (20_memory.md R70). -/
theorem writeByte_wf {s : State} (h : s.mem.wf = true) (a : Word) (v : Byte) :
    (writeByte a v s).mem.wf = true := by
  rcases writeByte_cases a v s with ⟨_, e⟩ | ⟨_, e⟩ | ⟨_, e⟩ <;> rw [e]
  · exact Memory.write_wf h a v
  · exact h
  · exact h

/-- The io log after a write (20_memory.md R74). -/
theorem writeByte_ioLog (a : Word) (v : Byte) (s : State) :
    (writeByte a v s).ioLog = if kindAt s.params a = .io then .write a v :: s.ioLog else s.ioLog := by
  rcases writeByte_cases a v s with ⟨hk, e⟩ | ⟨hk, e⟩ | ⟨hk, e⟩ <;> rw [e]
  · simp [hk, State.setMem]
  · rcases hk with hk | hk <;> simp [hk]
  · simp [hk, State.setIoLog]

/-- A read of ram or rom gives the byte there and changes nothing (20_memory.md R72). -/
theorem readByte_plain {a : Word} {s : State} (h : kindAt s.params a = .ram ∨ kindAt s.params a = .rom) :
    readByte a s = (s.byteAt a, s) := by
  rcases readByte_cases a s with ⟨_, e⟩ | ⟨k, _⟩ | ⟨k, _⟩
  · exact e
  · rcases h with h | h <;> rw [h] at k <;> cases k
  · rcases h with h | h <;> rw [h] at k <;> cases k

/-- A word read of ram or rom gives the two bytes, the high byte first, and changes nothing
(20_memory.md R73). -/
theorem readWord_plain {a : Word} {s : State}
    (h : kindAt s.params a = .ram ∨ kindAt s.params a = .rom)
    (h' : kindAt s.params (a + 1) = .ram ∨ kindAt s.params (a + 1) = .rom) :
    readWord a s = (cat (s.byteAt a) (s.byteAt (a + 1)), s) := by
  simp only [readWord, readByte_plain h, readByte_plain h']

end Sys2Proof.Machine
end

