-- ==== Sys2Proof/Laws/State.lean ====
section
/-! SUPPORT. One lemma per field per named update of State, all true by rfl. -/

namespace Sys2Proof.Machine

variable (s : State)

section
variable (v : Byte)
@[simp] theorem State.setA_a : (s.setA v).a = v := rfl
@[simp] theorem State.setA_b : (s.setA v).b = s.b := rfl
@[simp] theorem State.setA_x : (s.setA v).x = s.x := rfl
@[simp] theorem State.setA_y : (s.setA v).y = s.y := rfl
@[simp] theorem State.setA_sp : (s.setA v).sp = s.sp := rfl
@[simp] theorem State.setA_pc : (s.setA v).pc = s.pc := rfl
@[simp] theorem State.setA_ccr : (s.setA v).ccr = s.ccr := rfl
@[simp] theorem State.setA_runState : (s.setA v).runState = s.runState := rfl
@[simp] theorem State.setA_inhibit : (s.setA v).inhibit = s.inhibit := rfl
@[simp] theorem State.setA_resetReq : (s.setA v).resetReq = s.resetReq := rfl
@[simp] theorem State.setA_pending : (s.setA v).pending = s.pending := rfl
@[simp] theorem State.setA_inputs : (s.setA v).inputs = s.inputs := rfl
@[simp] theorem State.setA_mem : (s.setA v).mem = s.mem := rfl
@[simp] theorem State.setA_ioLog : (s.setA v).ioLog = s.ioLog := rfl
@[simp] theorem State.setA_draws : (s.setA v).draws = s.draws := rfl
@[simp] theorem State.setA_params : (s.setA v).params = s.params := rfl
end

section
variable (v : Byte)
@[simp] theorem State.setB_a : (s.setB v).a = s.a := rfl
@[simp] theorem State.setB_b : (s.setB v).b = v := rfl
@[simp] theorem State.setB_x : (s.setB v).x = s.x := rfl
@[simp] theorem State.setB_y : (s.setB v).y = s.y := rfl
@[simp] theorem State.setB_sp : (s.setB v).sp = s.sp := rfl
@[simp] theorem State.setB_pc : (s.setB v).pc = s.pc := rfl
@[simp] theorem State.setB_ccr : (s.setB v).ccr = s.ccr := rfl
@[simp] theorem State.setB_runState : (s.setB v).runState = s.runState := rfl
@[simp] theorem State.setB_inhibit : (s.setB v).inhibit = s.inhibit := rfl
@[simp] theorem State.setB_resetReq : (s.setB v).resetReq = s.resetReq := rfl
@[simp] theorem State.setB_pending : (s.setB v).pending = s.pending := rfl
@[simp] theorem State.setB_inputs : (s.setB v).inputs = s.inputs := rfl
@[simp] theorem State.setB_mem : (s.setB v).mem = s.mem := rfl
@[simp] theorem State.setB_ioLog : (s.setB v).ioLog = s.ioLog := rfl
@[simp] theorem State.setB_draws : (s.setB v).draws = s.draws := rfl
@[simp] theorem State.setB_params : (s.setB v).params = s.params := rfl
end

section
variable (v : Word)
@[simp] theorem State.setX_a : (s.setX v).a = s.a := rfl
@[simp] theorem State.setX_b : (s.setX v).b = s.b := rfl
@[simp] theorem State.setX_x : (s.setX v).x = v := rfl
@[simp] theorem State.setX_y : (s.setX v).y = s.y := rfl
@[simp] theorem State.setX_sp : (s.setX v).sp = s.sp := rfl
@[simp] theorem State.setX_pc : (s.setX v).pc = s.pc := rfl
@[simp] theorem State.setX_ccr : (s.setX v).ccr = s.ccr := rfl
@[simp] theorem State.setX_runState : (s.setX v).runState = s.runState := rfl
@[simp] theorem State.setX_inhibit : (s.setX v).inhibit = s.inhibit := rfl
@[simp] theorem State.setX_resetReq : (s.setX v).resetReq = s.resetReq := rfl
@[simp] theorem State.setX_pending : (s.setX v).pending = s.pending := rfl
@[simp] theorem State.setX_inputs : (s.setX v).inputs = s.inputs := rfl
@[simp] theorem State.setX_mem : (s.setX v).mem = s.mem := rfl
@[simp] theorem State.setX_ioLog : (s.setX v).ioLog = s.ioLog := rfl
@[simp] theorem State.setX_draws : (s.setX v).draws = s.draws := rfl
@[simp] theorem State.setX_params : (s.setX v).params = s.params := rfl
end

section
variable (v : Word)
@[simp] theorem State.setY_a : (s.setY v).a = s.a := rfl
@[simp] theorem State.setY_b : (s.setY v).b = s.b := rfl
@[simp] theorem State.setY_x : (s.setY v).x = s.x := rfl
@[simp] theorem State.setY_y : (s.setY v).y = v := rfl
@[simp] theorem State.setY_sp : (s.setY v).sp = s.sp := rfl
@[simp] theorem State.setY_pc : (s.setY v).pc = s.pc := rfl
@[simp] theorem State.setY_ccr : (s.setY v).ccr = s.ccr := rfl
@[simp] theorem State.setY_runState : (s.setY v).runState = s.runState := rfl
@[simp] theorem State.setY_inhibit : (s.setY v).inhibit = s.inhibit := rfl
@[simp] theorem State.setY_resetReq : (s.setY v).resetReq = s.resetReq := rfl
@[simp] theorem State.setY_pending : (s.setY v).pending = s.pending := rfl
@[simp] theorem State.setY_inputs : (s.setY v).inputs = s.inputs := rfl
@[simp] theorem State.setY_mem : (s.setY v).mem = s.mem := rfl
@[simp] theorem State.setY_ioLog : (s.setY v).ioLog = s.ioLog := rfl
@[simp] theorem State.setY_draws : (s.setY v).draws = s.draws := rfl
@[simp] theorem State.setY_params : (s.setY v).params = s.params := rfl
end

section
variable (v : Word)
@[simp] theorem State.setSp_a : (s.setSp v).a = s.a := rfl
@[simp] theorem State.setSp_b : (s.setSp v).b = s.b := rfl
@[simp] theorem State.setSp_x : (s.setSp v).x = s.x := rfl
@[simp] theorem State.setSp_y : (s.setSp v).y = s.y := rfl
@[simp] theorem State.setSp_sp : (s.setSp v).sp = v := rfl
@[simp] theorem State.setSp_pc : (s.setSp v).pc = s.pc := rfl
@[simp] theorem State.setSp_ccr : (s.setSp v).ccr = s.ccr := rfl
@[simp] theorem State.setSp_runState : (s.setSp v).runState = s.runState := rfl
@[simp] theorem State.setSp_inhibit : (s.setSp v).inhibit = s.inhibit := rfl
@[simp] theorem State.setSp_resetReq : (s.setSp v).resetReq = s.resetReq := rfl
@[simp] theorem State.setSp_pending : (s.setSp v).pending = s.pending := rfl
@[simp] theorem State.setSp_inputs : (s.setSp v).inputs = s.inputs := rfl
@[simp] theorem State.setSp_mem : (s.setSp v).mem = s.mem := rfl
@[simp] theorem State.setSp_ioLog : (s.setSp v).ioLog = s.ioLog := rfl
@[simp] theorem State.setSp_draws : (s.setSp v).draws = s.draws := rfl
@[simp] theorem State.setSp_params : (s.setSp v).params = s.params := rfl
end

section
variable (v : Word)
@[simp] theorem State.setPc_a : (s.setPc v).a = s.a := rfl
@[simp] theorem State.setPc_b : (s.setPc v).b = s.b := rfl
@[simp] theorem State.setPc_x : (s.setPc v).x = s.x := rfl
@[simp] theorem State.setPc_y : (s.setPc v).y = s.y := rfl
@[simp] theorem State.setPc_sp : (s.setPc v).sp = s.sp := rfl
@[simp] theorem State.setPc_pc : (s.setPc v).pc = v := rfl
@[simp] theorem State.setPc_ccr : (s.setPc v).ccr = s.ccr := rfl
@[simp] theorem State.setPc_runState : (s.setPc v).runState = s.runState := rfl
@[simp] theorem State.setPc_inhibit : (s.setPc v).inhibit = s.inhibit := rfl
@[simp] theorem State.setPc_resetReq : (s.setPc v).resetReq = s.resetReq := rfl
@[simp] theorem State.setPc_pending : (s.setPc v).pending = s.pending := rfl
@[simp] theorem State.setPc_inputs : (s.setPc v).inputs = s.inputs := rfl
@[simp] theorem State.setPc_mem : (s.setPc v).mem = s.mem := rfl
@[simp] theorem State.setPc_ioLog : (s.setPc v).ioLog = s.ioLog := rfl
@[simp] theorem State.setPc_draws : (s.setPc v).draws = s.draws := rfl
@[simp] theorem State.setPc_params : (s.setPc v).params = s.params := rfl
end

section
variable (v : Byte)
@[simp] theorem State.setCcr_a : (s.setCcr v).a = s.a := rfl
@[simp] theorem State.setCcr_b : (s.setCcr v).b = s.b := rfl
@[simp] theorem State.setCcr_x : (s.setCcr v).x = s.x := rfl
@[simp] theorem State.setCcr_y : (s.setCcr v).y = s.y := rfl
@[simp] theorem State.setCcr_sp : (s.setCcr v).sp = s.sp := rfl
@[simp] theorem State.setCcr_pc : (s.setCcr v).pc = s.pc := rfl
@[simp] theorem State.setCcr_ccr : (s.setCcr v).ccr = v := rfl
@[simp] theorem State.setCcr_runState : (s.setCcr v).runState = s.runState := rfl
@[simp] theorem State.setCcr_inhibit : (s.setCcr v).inhibit = s.inhibit := rfl
@[simp] theorem State.setCcr_resetReq : (s.setCcr v).resetReq = s.resetReq := rfl
@[simp] theorem State.setCcr_pending : (s.setCcr v).pending = s.pending := rfl
@[simp] theorem State.setCcr_inputs : (s.setCcr v).inputs = s.inputs := rfl
@[simp] theorem State.setCcr_mem : (s.setCcr v).mem = s.mem := rfl
@[simp] theorem State.setCcr_ioLog : (s.setCcr v).ioLog = s.ioLog := rfl
@[simp] theorem State.setCcr_draws : (s.setCcr v).draws = s.draws := rfl
@[simp] theorem State.setCcr_params : (s.setCcr v).params = s.params := rfl
end

section
variable (v : RunState)
@[simp] theorem State.setRunState_a : (s.setRunState v).a = s.a := rfl
@[simp] theorem State.setRunState_b : (s.setRunState v).b = s.b := rfl
@[simp] theorem State.setRunState_x : (s.setRunState v).x = s.x := rfl
@[simp] theorem State.setRunState_y : (s.setRunState v).y = s.y := rfl
@[simp] theorem State.setRunState_sp : (s.setRunState v).sp = s.sp := rfl
@[simp] theorem State.setRunState_pc : (s.setRunState v).pc = s.pc := rfl
@[simp] theorem State.setRunState_ccr : (s.setRunState v).ccr = s.ccr := rfl
@[simp] theorem State.setRunState_runState : (s.setRunState v).runState = v := rfl
@[simp] theorem State.setRunState_inhibit : (s.setRunState v).inhibit = s.inhibit := rfl
@[simp] theorem State.setRunState_resetReq : (s.setRunState v).resetReq = s.resetReq := rfl
@[simp] theorem State.setRunState_pending : (s.setRunState v).pending = s.pending := rfl
@[simp] theorem State.setRunState_inputs : (s.setRunState v).inputs = s.inputs := rfl
@[simp] theorem State.setRunState_mem : (s.setRunState v).mem = s.mem := rfl
@[simp] theorem State.setRunState_ioLog : (s.setRunState v).ioLog = s.ioLog := rfl
@[simp] theorem State.setRunState_draws : (s.setRunState v).draws = s.draws := rfl
@[simp] theorem State.setRunState_params : (s.setRunState v).params = s.params := rfl
end

section
variable (v : Bool)
@[simp] theorem State.setInhibit_a : (s.setInhibit v).a = s.a := rfl
@[simp] theorem State.setInhibit_b : (s.setInhibit v).b = s.b := rfl
@[simp] theorem State.setInhibit_x : (s.setInhibit v).x = s.x := rfl
@[simp] theorem State.setInhibit_y : (s.setInhibit v).y = s.y := rfl
@[simp] theorem State.setInhibit_sp : (s.setInhibit v).sp = s.sp := rfl
@[simp] theorem State.setInhibit_pc : (s.setInhibit v).pc = s.pc := rfl
@[simp] theorem State.setInhibit_ccr : (s.setInhibit v).ccr = s.ccr := rfl
@[simp] theorem State.setInhibit_runState : (s.setInhibit v).runState = s.runState := rfl
@[simp] theorem State.setInhibit_inhibit : (s.setInhibit v).inhibit = v := rfl
@[simp] theorem State.setInhibit_resetReq : (s.setInhibit v).resetReq = s.resetReq := rfl
@[simp] theorem State.setInhibit_pending : (s.setInhibit v).pending = s.pending := rfl
@[simp] theorem State.setInhibit_inputs : (s.setInhibit v).inputs = s.inputs := rfl
@[simp] theorem State.setInhibit_mem : (s.setInhibit v).mem = s.mem := rfl
@[simp] theorem State.setInhibit_ioLog : (s.setInhibit v).ioLog = s.ioLog := rfl
@[simp] theorem State.setInhibit_draws : (s.setInhibit v).draws = s.draws := rfl
@[simp] theorem State.setInhibit_params : (s.setInhibit v).params = s.params := rfl
end

section
variable (v : Bool)
@[simp] theorem State.setResetReq_a : (s.setResetReq v).a = s.a := rfl
@[simp] theorem State.setResetReq_b : (s.setResetReq v).b = s.b := rfl
@[simp] theorem State.setResetReq_x : (s.setResetReq v).x = s.x := rfl
@[simp] theorem State.setResetReq_y : (s.setResetReq v).y = s.y := rfl
@[simp] theorem State.setResetReq_sp : (s.setResetReq v).sp = s.sp := rfl
@[simp] theorem State.setResetReq_pc : (s.setResetReq v).pc = s.pc := rfl
@[simp] theorem State.setResetReq_ccr : (s.setResetReq v).ccr = s.ccr := rfl
@[simp] theorem State.setResetReq_runState : (s.setResetReq v).runState = s.runState := rfl
@[simp] theorem State.setResetReq_inhibit : (s.setResetReq v).inhibit = s.inhibit := rfl
@[simp] theorem State.setResetReq_resetReq : (s.setResetReq v).resetReq = v := rfl
@[simp] theorem State.setResetReq_pending : (s.setResetReq v).pending = s.pending := rfl
@[simp] theorem State.setResetReq_inputs : (s.setResetReq v).inputs = s.inputs := rfl
@[simp] theorem State.setResetReq_mem : (s.setResetReq v).mem = s.mem := rfl
@[simp] theorem State.setResetReq_ioLog : (s.setResetReq v).ioLog = s.ioLog := rfl
@[simp] theorem State.setResetReq_draws : (s.setResetReq v).draws = s.draws := rfl
@[simp] theorem State.setResetReq_params : (s.setResetReq v).params = s.params := rfl
end

section
variable (v : List SourceName)
@[simp] theorem State.setPending_a : (s.setPending v).a = s.a := rfl
@[simp] theorem State.setPending_b : (s.setPending v).b = s.b := rfl
@[simp] theorem State.setPending_x : (s.setPending v).x = s.x := rfl
@[simp] theorem State.setPending_y : (s.setPending v).y = s.y := rfl
@[simp] theorem State.setPending_sp : (s.setPending v).sp = s.sp := rfl
@[simp] theorem State.setPending_pc : (s.setPending v).pc = s.pc := rfl
@[simp] theorem State.setPending_ccr : (s.setPending v).ccr = s.ccr := rfl
@[simp] theorem State.setPending_runState : (s.setPending v).runState = s.runState := rfl
@[simp] theorem State.setPending_inhibit : (s.setPending v).inhibit = s.inhibit := rfl
@[simp] theorem State.setPending_resetReq : (s.setPending v).resetReq = s.resetReq := rfl
@[simp] theorem State.setPending_pending : (s.setPending v).pending = v := rfl
@[simp] theorem State.setPending_inputs : (s.setPending v).inputs = s.inputs := rfl
@[simp] theorem State.setPending_mem : (s.setPending v).mem = s.mem := rfl
@[simp] theorem State.setPending_ioLog : (s.setPending v).ioLog = s.ioLog := rfl
@[simp] theorem State.setPending_draws : (s.setPending v).draws = s.draws := rfl
@[simp] theorem State.setPending_params : (s.setPending v).params = s.params := rfl
end

section
variable (v : List EnvInput)
@[simp] theorem State.setInputs_a : (s.setInputs v).a = s.a := rfl
@[simp] theorem State.setInputs_b : (s.setInputs v).b = s.b := rfl
@[simp] theorem State.setInputs_x : (s.setInputs v).x = s.x := rfl
@[simp] theorem State.setInputs_y : (s.setInputs v).y = s.y := rfl
@[simp] theorem State.setInputs_sp : (s.setInputs v).sp = s.sp := rfl
@[simp] theorem State.setInputs_pc : (s.setInputs v).pc = s.pc := rfl
@[simp] theorem State.setInputs_ccr : (s.setInputs v).ccr = s.ccr := rfl
@[simp] theorem State.setInputs_runState : (s.setInputs v).runState = s.runState := rfl
@[simp] theorem State.setInputs_inhibit : (s.setInputs v).inhibit = s.inhibit := rfl
@[simp] theorem State.setInputs_resetReq : (s.setInputs v).resetReq = s.resetReq := rfl
@[simp] theorem State.setInputs_pending : (s.setInputs v).pending = s.pending := rfl
@[simp] theorem State.setInputs_inputs : (s.setInputs v).inputs = v := rfl
@[simp] theorem State.setInputs_mem : (s.setInputs v).mem = s.mem := rfl
@[simp] theorem State.setInputs_ioLog : (s.setInputs v).ioLog = s.ioLog := rfl
@[simp] theorem State.setInputs_draws : (s.setInputs v).draws = s.draws := rfl
@[simp] theorem State.setInputs_params : (s.setInputs v).params = s.params := rfl
end

section
variable (v : Memory)
@[simp] theorem State.setMem_a : (s.setMem v).a = s.a := rfl
@[simp] theorem State.setMem_b : (s.setMem v).b = s.b := rfl
@[simp] theorem State.setMem_x : (s.setMem v).x = s.x := rfl
@[simp] theorem State.setMem_y : (s.setMem v).y = s.y := rfl
@[simp] theorem State.setMem_sp : (s.setMem v).sp = s.sp := rfl
@[simp] theorem State.setMem_pc : (s.setMem v).pc = s.pc := rfl
@[simp] theorem State.setMem_ccr : (s.setMem v).ccr = s.ccr := rfl
@[simp] theorem State.setMem_runState : (s.setMem v).runState = s.runState := rfl
@[simp] theorem State.setMem_inhibit : (s.setMem v).inhibit = s.inhibit := rfl
@[simp] theorem State.setMem_resetReq : (s.setMem v).resetReq = s.resetReq := rfl
@[simp] theorem State.setMem_pending : (s.setMem v).pending = s.pending := rfl
@[simp] theorem State.setMem_inputs : (s.setMem v).inputs = s.inputs := rfl
@[simp] theorem State.setMem_mem : (s.setMem v).mem = v := rfl
@[simp] theorem State.setMem_ioLog : (s.setMem v).ioLog = s.ioLog := rfl
@[simp] theorem State.setMem_draws : (s.setMem v).draws = s.draws := rfl
@[simp] theorem State.setMem_params : (s.setMem v).params = s.params := rfl
end

section
variable (v : List IoEvent)
@[simp] theorem State.setIoLog_a : (s.setIoLog v).a = s.a := rfl
@[simp] theorem State.setIoLog_b : (s.setIoLog v).b = s.b := rfl
@[simp] theorem State.setIoLog_x : (s.setIoLog v).x = s.x := rfl
@[simp] theorem State.setIoLog_y : (s.setIoLog v).y = s.y := rfl
@[simp] theorem State.setIoLog_sp : (s.setIoLog v).sp = s.sp := rfl
@[simp] theorem State.setIoLog_pc : (s.setIoLog v).pc = s.pc := rfl
@[simp] theorem State.setIoLog_ccr : (s.setIoLog v).ccr = s.ccr := rfl
@[simp] theorem State.setIoLog_runState : (s.setIoLog v).runState = s.runState := rfl
@[simp] theorem State.setIoLog_inhibit : (s.setIoLog v).inhibit = s.inhibit := rfl
@[simp] theorem State.setIoLog_resetReq : (s.setIoLog v).resetReq = s.resetReq := rfl
@[simp] theorem State.setIoLog_pending : (s.setIoLog v).pending = s.pending := rfl
@[simp] theorem State.setIoLog_inputs : (s.setIoLog v).inputs = s.inputs := rfl
@[simp] theorem State.setIoLog_mem : (s.setIoLog v).mem = s.mem := rfl
@[simp] theorem State.setIoLog_ioLog : (s.setIoLog v).ioLog = v := rfl
@[simp] theorem State.setIoLog_draws : (s.setIoLog v).draws = s.draws := rfl
@[simp] theorem State.setIoLog_params : (s.setIoLog v).params = s.params := rfl
end

section
variable (v : Nat)
@[simp] theorem State.setDraws_a : (s.setDraws v).a = s.a := rfl
@[simp] theorem State.setDraws_b : (s.setDraws v).b = s.b := rfl
@[simp] theorem State.setDraws_x : (s.setDraws v).x = s.x := rfl
@[simp] theorem State.setDraws_y : (s.setDraws v).y = s.y := rfl
@[simp] theorem State.setDraws_sp : (s.setDraws v).sp = s.sp := rfl
@[simp] theorem State.setDraws_pc : (s.setDraws v).pc = s.pc := rfl
@[simp] theorem State.setDraws_ccr : (s.setDraws v).ccr = s.ccr := rfl
@[simp] theorem State.setDraws_runState : (s.setDraws v).runState = s.runState := rfl
@[simp] theorem State.setDraws_inhibit : (s.setDraws v).inhibit = s.inhibit := rfl
@[simp] theorem State.setDraws_resetReq : (s.setDraws v).resetReq = s.resetReq := rfl
@[simp] theorem State.setDraws_pending : (s.setDraws v).pending = s.pending := rfl
@[simp] theorem State.setDraws_inputs : (s.setDraws v).inputs = s.inputs := rfl
@[simp] theorem State.setDraws_mem : (s.setDraws v).mem = s.mem := rfl
@[simp] theorem State.setDraws_ioLog : (s.setDraws v).ioLog = s.ioLog := rfl
@[simp] theorem State.setDraws_draws : (s.setDraws v).draws = v := rfl
@[simp] theorem State.setDraws_params : (s.setDraws v).params = s.params := rfl
end

end Sys2Proof.Machine
end

