-- ==== Sys2Proof/Laws/Ops.lean ====
section
/-! SUPPORT. The shared operations over memory, field by field: what each leaves unchanged, what it moves SP by,
and which bytes of memory it writes (00_scope.md R12, R14; 30_encoding.md R127). -/

namespace Sys2Proof.Machine

variable (s : State)

/-! ## A byte read or written -/

@[simp] theorem readByte_a (p : Word) : (readByte p s).2.a = s.a := by rw [readByte_state]; rfl
@[simp] theorem readByte_b (p : Word) : (readByte p s).2.b = s.b := by rw [readByte_state]; rfl
@[simp] theorem readByte_x (p : Word) : (readByte p s).2.x = s.x := by rw [readByte_state]; rfl
@[simp] theorem readByte_y (p : Word) : (readByte p s).2.y = s.y := by rw [readByte_state]; rfl
@[simp] theorem readByte_sp (p : Word) : (readByte p s).2.sp = s.sp := by rw [readByte_state]; rfl
@[simp] theorem readByte_pc (p : Word) : (readByte p s).2.pc = s.pc := by rw [readByte_state]; rfl
@[simp] theorem readByte_ccr (p : Word) : (readByte p s).2.ccr = s.ccr := by rw [readByte_state]; rfl
@[simp] theorem readByte_runState (p : Word) : (readByte p s).2.runState = s.runState := by rw [readByte_state]; rfl
@[simp] theorem readByte_inhibit (p : Word) : (readByte p s).2.inhibit = s.inhibit := by rw [readByte_state]; rfl
@[simp] theorem readByte_resetReq (p : Word) : (readByte p s).2.resetReq = s.resetReq := by rw [readByte_state]; rfl
@[simp] theorem readByte_pending (p : Word) : (readByte p s).2.pending = s.pending := by rw [readByte_state]; rfl
@[simp] theorem readByte_inputs (p : Word) : (readByte p s).2.inputs = s.inputs := by rw [readByte_state]; rfl
@[simp] theorem readByte_mem (p : Word) : (readByte p s).2.mem = s.mem := by rw [readByte_state]; rfl
@[simp] theorem readByte_params (p : Word) : (readByte p s).2.params = s.params := by rw [readByte_state]; rfl

@[simp] theorem writeByte_a (p : Word) (v : Byte) : (writeByte p v s).a = s.a := by rw [writeByte_state]; rfl
@[simp] theorem writeByte_b (p : Word) (v : Byte) : (writeByte p v s).b = s.b := by rw [writeByte_state]; rfl
@[simp] theorem writeByte_x (p : Word) (v : Byte) : (writeByte p v s).x = s.x := by rw [writeByte_state]; rfl
@[simp] theorem writeByte_y (p : Word) (v : Byte) : (writeByte p v s).y = s.y := by rw [writeByte_state]; rfl
@[simp] theorem writeByte_sp (p : Word) (v : Byte) : (writeByte p v s).sp = s.sp := by rw [writeByte_state]; rfl
@[simp] theorem writeByte_pc (p : Word) (v : Byte) : (writeByte p v s).pc = s.pc := by rw [writeByte_state]; rfl
@[simp] theorem writeByte_ccr (p : Word) (v : Byte) : (writeByte p v s).ccr = s.ccr := by rw [writeByte_state]; rfl
@[simp] theorem writeByte_runState (p : Word) (v : Byte) : (writeByte p v s).runState = s.runState := by rw [writeByte_state]; rfl
@[simp] theorem writeByte_inhibit (p : Word) (v : Byte) : (writeByte p v s).inhibit = s.inhibit := by rw [writeByte_state]; rfl
@[simp] theorem writeByte_resetReq (p : Word) (v : Byte) : (writeByte p v s).resetReq = s.resetReq := by rw [writeByte_state]; rfl
@[simp] theorem writeByte_pending (p : Word) (v : Byte) : (writeByte p v s).pending = s.pending := by rw [writeByte_state]; rfl
@[simp] theorem writeByte_inputs (p : Word) (v : Byte) : (writeByte p v s).inputs = s.inputs := by rw [writeByte_state]; rfl
@[simp] theorem writeByte_draws (p : Word) (v : Byte) : (writeByte p v s).draws = s.draws := by rw [writeByte_state]; rfl
@[simp] theorem writeByte_params (p : Word) (v : Byte) : (writeByte p v s).params = s.params := by rw [writeByte_state]; rfl

/-! ## A word read or written -/

@[simp] theorem readWord_a (p : Word) : (readWord p s).2.a = s.a := by simp [readWord]
@[simp] theorem readWord_b (p : Word) : (readWord p s).2.b = s.b := by simp [readWord]
@[simp] theorem readWord_x (p : Word) : (readWord p s).2.x = s.x := by simp [readWord]
@[simp] theorem readWord_y (p : Word) : (readWord p s).2.y = s.y := by simp [readWord]
@[simp] theorem readWord_sp (p : Word) : (readWord p s).2.sp = s.sp := by simp [readWord]
@[simp] theorem readWord_pc (p : Word) : (readWord p s).2.pc = s.pc := by simp [readWord]
@[simp] theorem readWord_ccr (p : Word) : (readWord p s).2.ccr = s.ccr := by simp [readWord]
@[simp] theorem readWord_runState (p : Word) : (readWord p s).2.runState = s.runState := by simp [readWord]
@[simp] theorem readWord_inhibit (p : Word) : (readWord p s).2.inhibit = s.inhibit := by simp [readWord]
@[simp] theorem readWord_resetReq (p : Word) : (readWord p s).2.resetReq = s.resetReq := by simp [readWord]
@[simp] theorem readWord_pending (p : Word) : (readWord p s).2.pending = s.pending := by simp [readWord]
@[simp] theorem readWord_inputs (p : Word) : (readWord p s).2.inputs = s.inputs := by simp [readWord]
@[simp] theorem readWord_mem (p : Word) : (readWord p s).2.mem = s.mem := by simp [readWord]
@[simp] theorem readWord_params (p : Word) : (readWord p s).2.params = s.params := by simp [readWord]

@[simp] theorem writeWord_a (p v : Word) : (writeWord p v s).a = s.a := by simp [writeWord]
@[simp] theorem writeWord_b (p v : Word) : (writeWord p v s).b = s.b := by simp [writeWord]
@[simp] theorem writeWord_x (p v : Word) : (writeWord p v s).x = s.x := by simp [writeWord]
@[simp] theorem writeWord_y (p v : Word) : (writeWord p v s).y = s.y := by simp [writeWord]
@[simp] theorem writeWord_sp (p v : Word) : (writeWord p v s).sp = s.sp := by simp [writeWord]
@[simp] theorem writeWord_pc (p v : Word) : (writeWord p v s).pc = s.pc := by simp [writeWord]
@[simp] theorem writeWord_ccr (p v : Word) : (writeWord p v s).ccr = s.ccr := by simp [writeWord]
@[simp] theorem writeWord_runState (p v : Word) : (writeWord p v s).runState = s.runState := by simp [writeWord]
@[simp] theorem writeWord_inhibit (p v : Word) : (writeWord p v s).inhibit = s.inhibit := by simp [writeWord]
@[simp] theorem writeWord_resetReq (p v : Word) : (writeWord p v s).resetReq = s.resetReq := by simp [writeWord]
@[simp] theorem writeWord_pending (p v : Word) : (writeWord p v s).pending = s.pending := by simp [writeWord]
@[simp] theorem writeWord_inputs (p v : Word) : (writeWord p v s).inputs = s.inputs := by simp [writeWord]
@[simp] theorem writeWord_draws (p v : Word) : (writeWord p v s).draws = s.draws := by simp [writeWord]
@[simp] theorem writeWord_params (p v : Word) : (writeWord p v s).params = s.params := by simp [writeWord]

/-! ## A source operand -/

@[simp] theorem readSrc8_a (src : Src8) : (readSrc8 src s).2.a = s.a := by cases src <;> simp [readSrc8]
@[simp] theorem readSrc8_b (src : Src8) : (readSrc8 src s).2.b = s.b := by cases src <;> simp [readSrc8]
@[simp] theorem readSrc8_x (src : Src8) : (readSrc8 src s).2.x = s.x := by cases src <;> simp [readSrc8]
@[simp] theorem readSrc8_y (src : Src8) : (readSrc8 src s).2.y = s.y := by cases src <;> simp [readSrc8]
@[simp] theorem readSrc8_sp (src : Src8) : (readSrc8 src s).2.sp = s.sp := by cases src <;> simp [readSrc8]
@[simp] theorem readSrc8_pc (src : Src8) : (readSrc8 src s).2.pc = s.pc := by cases src <;> simp [readSrc8]
@[simp] theorem readSrc8_ccr (src : Src8) : (readSrc8 src s).2.ccr = s.ccr := by cases src <;> simp [readSrc8]
@[simp] theorem readSrc8_runState (src : Src8) : (readSrc8 src s).2.runState = s.runState := by cases src <;> simp [readSrc8]
@[simp] theorem readSrc8_inhibit (src : Src8) : (readSrc8 src s).2.inhibit = s.inhibit := by cases src <;> simp [readSrc8]
@[simp] theorem readSrc8_resetReq (src : Src8) : (readSrc8 src s).2.resetReq = s.resetReq := by cases src <;> simp [readSrc8]
@[simp] theorem readSrc8_pending (src : Src8) : (readSrc8 src s).2.pending = s.pending := by cases src <;> simp [readSrc8]
@[simp] theorem readSrc8_inputs (src : Src8) : (readSrc8 src s).2.inputs = s.inputs := by cases src <;> simp [readSrc8]
@[simp] theorem readSrc8_mem (src : Src8) : (readSrc8 src s).2.mem = s.mem := by cases src <;> simp [readSrc8]
@[simp] theorem readSrc8_params (src : Src8) : (readSrc8 src s).2.params = s.params := by cases src <;> simp [readSrc8]

@[simp] theorem readSrc16_a (src : Src16) : (readSrc16 src s).2.a = s.a := by cases src <;> simp [readSrc16]
@[simp] theorem readSrc16_b (src : Src16) : (readSrc16 src s).2.b = s.b := by cases src <;> simp [readSrc16]
@[simp] theorem readSrc16_x (src : Src16) : (readSrc16 src s).2.x = s.x := by cases src <;> simp [readSrc16]
@[simp] theorem readSrc16_y (src : Src16) : (readSrc16 src s).2.y = s.y := by cases src <;> simp [readSrc16]
@[simp] theorem readSrc16_sp (src : Src16) : (readSrc16 src s).2.sp = s.sp := by cases src <;> simp [readSrc16]
@[simp] theorem readSrc16_pc (src : Src16) : (readSrc16 src s).2.pc = s.pc := by cases src <;> simp [readSrc16]
@[simp] theorem readSrc16_ccr (src : Src16) : (readSrc16 src s).2.ccr = s.ccr := by cases src <;> simp [readSrc16]
@[simp] theorem readSrc16_runState (src : Src16) : (readSrc16 src s).2.runState = s.runState := by cases src <;> simp [readSrc16]
@[simp] theorem readSrc16_inhibit (src : Src16) : (readSrc16 src s).2.inhibit = s.inhibit := by cases src <;> simp [readSrc16]
@[simp] theorem readSrc16_resetReq (src : Src16) : (readSrc16 src s).2.resetReq = s.resetReq := by cases src <;> simp [readSrc16]
@[simp] theorem readSrc16_pending (src : Src16) : (readSrc16 src s).2.pending = s.pending := by cases src <;> simp [readSrc16]
@[simp] theorem readSrc16_inputs (src : Src16) : (readSrc16 src s).2.inputs = s.inputs := by cases src <;> simp [readSrc16]
@[simp] theorem readSrc16_mem (src : Src16) : (readSrc16 src s).2.mem = s.mem := by cases src <;> simp [readSrc16]
@[simp] theorem readSrc16_params (src : Src16) : (readSrc16 src s).2.params = s.params := by cases src <;> simp [readSrc16]

/-! ## The stack -/

@[simp] theorem push8_sp (v : Byte) : (push8 v s).sp = s.sp - 1 := by simp [push8]
@[simp] theorem push8_a (v : Byte) : (push8 v s).a = s.a := by simp [push8]
@[simp] theorem push8_b (v : Byte) : (push8 v s).b = s.b := by simp [push8]
@[simp] theorem push8_x (v : Byte) : (push8 v s).x = s.x := by simp [push8]
@[simp] theorem push8_y (v : Byte) : (push8 v s).y = s.y := by simp [push8]
@[simp] theorem push8_pc (v : Byte) : (push8 v s).pc = s.pc := by simp [push8]
@[simp] theorem push8_ccr (v : Byte) : (push8 v s).ccr = s.ccr := by simp [push8]
@[simp] theorem push8_runState (v : Byte) : (push8 v s).runState = s.runState := by simp [push8]
@[simp] theorem push8_inhibit (v : Byte) : (push8 v s).inhibit = s.inhibit := by simp [push8]
@[simp] theorem push8_resetReq (v : Byte) : (push8 v s).resetReq = s.resetReq := by simp [push8]
@[simp] theorem push8_pending (v : Byte) : (push8 v s).pending = s.pending := by simp [push8]
@[simp] theorem push8_inputs (v : Byte) : (push8 v s).inputs = s.inputs := by simp [push8]
@[simp] theorem push8_draws (v : Byte) : (push8 v s).draws = s.draws := by simp [push8]
@[simp] theorem push8_params (v : Byte) : (push8 v s).params = s.params := by simp [push8]

@[simp] theorem push16_sp (v : Word) : (push16 v s).sp = s.sp - 2 := by simp [push16]; bv_omega
@[simp] theorem push16_a (v : Word) : (push16 v s).a = s.a := by simp [push16]
@[simp] theorem push16_b (v : Word) : (push16 v s).b = s.b := by simp [push16]
@[simp] theorem push16_x (v : Word) : (push16 v s).x = s.x := by simp [push16]
@[simp] theorem push16_y (v : Word) : (push16 v s).y = s.y := by simp [push16]
@[simp] theorem push16_pc (v : Word) : (push16 v s).pc = s.pc := by simp [push16]
@[simp] theorem push16_ccr (v : Word) : (push16 v s).ccr = s.ccr := by simp [push16]
@[simp] theorem push16_runState (v : Word) : (push16 v s).runState = s.runState := by simp [push16]
@[simp] theorem push16_inhibit (v : Word) : (push16 v s).inhibit = s.inhibit := by simp [push16]
@[simp] theorem push16_resetReq (v : Word) : (push16 v s).resetReq = s.resetReq := by simp [push16]
@[simp] theorem push16_pending (v : Word) : (push16 v s).pending = s.pending := by simp [push16]
@[simp] theorem push16_inputs (v : Word) : (push16 v s).inputs = s.inputs := by simp [push16]
@[simp] theorem push16_draws (v : Word) : (push16 v s).draws = s.draws := by simp [push16]
@[simp] theorem push16_params (v : Word) : (push16 v s).params = s.params := by simp [push16]

@[simp] theorem pull8_sp : (pull8 s).2.sp = s.sp + 1 := by simp [pull8]
@[simp] theorem pull8_a : (pull8 s).2.a = s.a := by simp [pull8]
@[simp] theorem pull8_b : (pull8 s).2.b = s.b := by simp [pull8]
@[simp] theorem pull8_x : (pull8 s).2.x = s.x := by simp [pull8]
@[simp] theorem pull8_y : (pull8 s).2.y = s.y := by simp [pull8]
@[simp] theorem pull8_pc : (pull8 s).2.pc = s.pc := by simp [pull8]
@[simp] theorem pull8_ccr : (pull8 s).2.ccr = s.ccr := by simp [pull8]
@[simp] theorem pull8_runState : (pull8 s).2.runState = s.runState := by simp [pull8]
@[simp] theorem pull8_inhibit : (pull8 s).2.inhibit = s.inhibit := by simp [pull8]
@[simp] theorem pull8_resetReq : (pull8 s).2.resetReq = s.resetReq := by simp [pull8]
@[simp] theorem pull8_pending : (pull8 s).2.pending = s.pending := by simp [pull8]
@[simp] theorem pull8_inputs : (pull8 s).2.inputs = s.inputs := by simp [pull8]
@[simp] theorem pull8_mem : (pull8 s).2.mem = s.mem := by simp [pull8]
@[simp] theorem pull8_params : (pull8 s).2.params = s.params := by simp [pull8]

@[simp] theorem pull16_sp : (pull16 s).2.sp = s.sp + 2 := by simp [pull16]; bv_omega
@[simp] theorem pull16_a : (pull16 s).2.a = s.a := by simp [pull16]
@[simp] theorem pull16_b : (pull16 s).2.b = s.b := by simp [pull16]
@[simp] theorem pull16_x : (pull16 s).2.x = s.x := by simp [pull16]
@[simp] theorem pull16_y : (pull16 s).2.y = s.y := by simp [pull16]
@[simp] theorem pull16_pc : (pull16 s).2.pc = s.pc := by simp [pull16]
@[simp] theorem pull16_ccr : (pull16 s).2.ccr = s.ccr := by simp [pull16]
@[simp] theorem pull16_runState : (pull16 s).2.runState = s.runState := by simp [pull16]
@[simp] theorem pull16_inhibit : (pull16 s).2.inhibit = s.inhibit := by simp [pull16]
@[simp] theorem pull16_resetReq : (pull16 s).2.resetReq = s.resetReq := by simp [pull16]
@[simp] theorem pull16_pending : (pull16 s).2.pending = s.pending := by simp [pull16]
@[simp] theorem pull16_inputs : (pull16 s).2.inputs = s.inputs := by simp [pull16]
@[simp] theorem pull16_mem : (pull16 s).2.mem = s.mem := by simp [pull16]
@[simp] theorem pull16_params : (pull16 s).2.params = s.params := by simp [pull16]

@[simp] theorem pushContext_sp (ret : Word) : (pushContext ret s).sp = s.sp - 9 := by simp [pushContext]; bv_omega
@[simp] theorem pushContext_a (ret : Word) : (pushContext ret s).a = s.a := by simp [pushContext]
@[simp] theorem pushContext_b (ret : Word) : (pushContext ret s).b = s.b := by simp [pushContext]
@[simp] theorem pushContext_x (ret : Word) : (pushContext ret s).x = s.x := by simp [pushContext]
@[simp] theorem pushContext_y (ret : Word) : (pushContext ret s).y = s.y := by simp [pushContext]
@[simp] theorem pushContext_pc (ret : Word) : (pushContext ret s).pc = s.pc := by simp [pushContext]
@[simp] theorem pushContext_ccr (ret : Word) : (pushContext ret s).ccr = s.ccr := by simp [pushContext]
@[simp] theorem pushContext_runState (ret : Word) : (pushContext ret s).runState = s.runState := by simp [pushContext]
@[simp] theorem pushContext_inhibit (ret : Word) : (pushContext ret s).inhibit = s.inhibit := by simp [pushContext]
@[simp] theorem pushContext_resetReq (ret : Word) : (pushContext ret s).resetReq = s.resetReq := by simp [pushContext]
@[simp] theorem pushContext_pending (ret : Word) : (pushContext ret s).pending = s.pending := by simp [pushContext]
@[simp] theorem pushContext_inputs (ret : Word) : (pushContext ret s).inputs = s.inputs := by simp [pushContext]
@[simp] theorem pushContext_draws (ret : Word) : (pushContext ret s).draws = s.draws := by simp [pushContext]
@[simp] theorem pushContext_params (ret : Word) : (pushContext ret s).params = s.params := by simp [pushContext]

/-! ## Double accumulator and named registers -/

@[simp] theorem readByte_setA (p : Word) (v : Byte) :
    readByte p (s.setA v) = ((readByte p s).1, (readByte p s).2.setA v) := by
  simp only [readByte, State.setA_params, State.setA_draws, State.setA_ioLog, State.byteAt, State.setA_mem]
  cases kindAt s.params p <;> rfl
@[simp] theorem readWord_setA (p : Word) (v : Byte) :
    readWord p (s.setA v) = ((readWord p s).1, (readWord p s).2.setA v) := by simp [readWord]
@[simp] theorem readByte_setB (p : Word) (v : Byte) :
    readByte p (s.setB v) = ((readByte p s).1, (readByte p s).2.setB v) := by
  simp only [readByte, State.setB_params, State.setB_draws, State.setB_ioLog, State.byteAt, State.setB_mem]
  cases kindAt s.params p <;> rfl
@[simp] theorem readWord_setB (p : Word) (v : Byte) :
    readWord p (s.setB v) = ((readWord p s).1, (readWord p s).2.setB v) := by simp [readWord]
@[simp] theorem readByte_setX (p : Word) (v : Word) :
    readByte p (s.setX v) = ((readByte p s).1, (readByte p s).2.setX v) := by
  simp only [readByte, State.setX_params, State.setX_draws, State.setX_ioLog, State.byteAt, State.setX_mem]
  cases kindAt s.params p <;> rfl
@[simp] theorem readWord_setX (p : Word) (v : Word) :
    readWord p (s.setX v) = ((readWord p s).1, (readWord p s).2.setX v) := by simp [readWord]
@[simp] theorem readByte_setY (p : Word) (v : Word) :
    readByte p (s.setY v) = ((readByte p s).1, (readByte p s).2.setY v) := by
  simp only [readByte, State.setY_params, State.setY_draws, State.setY_ioLog, State.byteAt, State.setY_mem]
  cases kindAt s.params p <;> rfl
@[simp] theorem readWord_setY (p : Word) (v : Word) :
    readWord p (s.setY v) = ((readWord p s).1, (readWord p s).2.setY v) := by simp [readWord]
@[simp] theorem readByte_setSp (p : Word) (v : Word) :
    readByte p (s.setSp v) = ((readByte p s).1, (readByte p s).2.setSp v) := by
  simp only [readByte, State.setSp_params, State.setSp_draws, State.setSp_ioLog, State.byteAt, State.setSp_mem]
  cases kindAt s.params p <;> rfl
@[simp] theorem readWord_setSp (p : Word) (v : Word) :
    readWord p (s.setSp v) = ((readWord p s).1, (readWord p s).2.setSp v) := by simp [readWord]
@[simp] theorem readByte_setPc (p : Word) (v : Word) :
    readByte p (s.setPc v) = ((readByte p s).1, (readByte p s).2.setPc v) := by
  simp only [readByte, State.setPc_params, State.setPc_draws, State.setPc_ioLog, State.byteAt, State.setPc_mem]
  cases kindAt s.params p <;> rfl
@[simp] theorem readWord_setPc (p : Word) (v : Word) :
    readWord p (s.setPc v) = ((readWord p s).1, (readWord p s).2.setPc v) := by simp [readWord]
@[simp] theorem readByte_setCcr (p : Word) (v : Byte) :
    readByte p (s.setCcr v) = ((readByte p s).1, (readByte p s).2.setCcr v) := by
  simp only [readByte, State.setCcr_params, State.setCcr_draws, State.setCcr_ioLog, State.byteAt, State.setCcr_mem]
  cases kindAt s.params p <;> rfl
@[simp] theorem readWord_setCcr (p : Word) (v : Byte) :
    readWord p (s.setCcr v) = ((readWord p s).1, (readWord p s).2.setCcr v) := by simp [readWord]
@[simp] theorem readByte_setRunState (p : Word) (v : RunState) :
    readByte p (s.setRunState v) = ((readByte p s).1, (readByte p s).2.setRunState v) := by
  simp only [readByte, State.setRunState_params, State.setRunState_draws, State.setRunState_ioLog, State.byteAt, State.setRunState_mem]
  cases kindAt s.params p <;> rfl
@[simp] theorem readWord_setRunState (p : Word) (v : RunState) :
    readWord p (s.setRunState v) = ((readWord p s).1, (readWord p s).2.setRunState v) := by simp [readWord]
@[simp] theorem readByte_setInhibit (p : Word) (v : Bool) :
    readByte p (s.setInhibit v) = ((readByte p s).1, (readByte p s).2.setInhibit v) := by
  simp only [readByte, State.setInhibit_params, State.setInhibit_draws, State.setInhibit_ioLog, State.byteAt, State.setInhibit_mem]
  cases kindAt s.params p <;> rfl
@[simp] theorem readWord_setInhibit (p : Word) (v : Bool) :
    readWord p (s.setInhibit v) = ((readWord p s).1, (readWord p s).2.setInhibit v) := by simp [readWord]
@[simp] theorem writeByte_setA (p : Word) (v : Byte) (u : Byte) :
    writeByte p v (s.setA u) = (writeByte p v s).setA u := by
  simp only [writeByte, State.setA_params, State.setA_ioLog, State.setA_mem]
  cases kindAt s.params p <;> rfl
@[simp] theorem writeWord_setA (p v : Word) (u : Byte) :
    writeWord p v (s.setA u) = (writeWord p v s).setA u := by simp [writeWord]
@[simp] theorem writeByte_setB (p : Word) (v : Byte) (u : Byte) :
    writeByte p v (s.setB u) = (writeByte p v s).setB u := by
  simp only [writeByte, State.setB_params, State.setB_ioLog, State.setB_mem]
  cases kindAt s.params p <;> rfl
@[simp] theorem writeWord_setB (p v : Word) (u : Byte) :
    writeWord p v (s.setB u) = (writeWord p v s).setB u := by simp [writeWord]
@[simp] theorem writeByte_setX (p : Word) (v : Byte) (u : Word) :
    writeByte p v (s.setX u) = (writeByte p v s).setX u := by
  simp only [writeByte, State.setX_params, State.setX_ioLog, State.setX_mem]
  cases kindAt s.params p <;> rfl
@[simp] theorem writeWord_setX (p v : Word) (u : Word) :
    writeWord p v (s.setX u) = (writeWord p v s).setX u := by simp [writeWord]
@[simp] theorem writeByte_setY (p : Word) (v : Byte) (u : Word) :
    writeByte p v (s.setY u) = (writeByte p v s).setY u := by
  simp only [writeByte, State.setY_params, State.setY_ioLog, State.setY_mem]
  cases kindAt s.params p <;> rfl
@[simp] theorem writeWord_setY (p v : Word) (u : Word) :
    writeWord p v (s.setY u) = (writeWord p v s).setY u := by simp [writeWord]
@[simp] theorem writeByte_setSp (p : Word) (v : Byte) (u : Word) :
    writeByte p v (s.setSp u) = (writeByte p v s).setSp u := by
  simp only [writeByte, State.setSp_params, State.setSp_ioLog, State.setSp_mem]
  cases kindAt s.params p <;> rfl
@[simp] theorem writeWord_setSp (p v : Word) (u : Word) :
    writeWord p v (s.setSp u) = (writeWord p v s).setSp u := by simp [writeWord]
@[simp] theorem writeByte_setPc (p : Word) (v : Byte) (u : Word) :
    writeByte p v (s.setPc u) = (writeByte p v s).setPc u := by
  simp only [writeByte, State.setPc_params, State.setPc_ioLog, State.setPc_mem]
  cases kindAt s.params p <;> rfl
@[simp] theorem writeWord_setPc (p v : Word) (u : Word) :
    writeWord p v (s.setPc u) = (writeWord p v s).setPc u := by simp [writeWord]
@[simp] theorem writeByte_setCcr (p : Word) (v : Byte) (u : Byte) :
    writeByte p v (s.setCcr u) = (writeByte p v s).setCcr u := by
  simp only [writeByte, State.setCcr_params, State.setCcr_ioLog, State.setCcr_mem]
  cases kindAt s.params p <;> rfl
@[simp] theorem writeWord_setCcr (p v : Word) (u : Byte) :
    writeWord p v (s.setCcr u) = (writeWord p v s).setCcr u := by simp [writeWord]
@[simp] theorem writeByte_setRunState (p : Word) (v : Byte) (u : RunState) :
    writeByte p v (s.setRunState u) = (writeByte p v s).setRunState u := by
  simp only [writeByte, State.setRunState_params, State.setRunState_ioLog, State.setRunState_mem]
  cases kindAt s.params p <;> rfl
@[simp] theorem writeWord_setRunState (p v : Word) (u : RunState) :
    writeWord p v (s.setRunState u) = (writeWord p v s).setRunState u := by simp [writeWord]
@[simp] theorem writeByte_setInhibit (p : Word) (v : Byte) (u : Bool) :
    writeByte p v (s.setInhibit u) = (writeByte p v s).setInhibit u := by
  simp only [writeByte, State.setInhibit_params, State.setInhibit_ioLog, State.setInhibit_mem]
  cases kindAt s.params p <;> rfl
@[simp] theorem writeWord_setInhibit (p v : Word) (u : Bool) :
    writeWord p v (s.setInhibit u) = (writeWord p v s).setInhibit u := by simp [writeWord]
@[simp] theorem State.setSp_setSp (u v : Word) : (s.setSp u).setSp v = s.setSp v := rfl

@[simp] theorem State.setD_d (v : Word) : (s.setD v).d = v := by simp [State.d, State.setD]
@[simp] theorem State.setD_a (v : Word) : (s.setD v).a = hi v := rfl
@[simp] theorem State.setD_b (v : Word) : (s.setD v).b = lo v := rfl
@[simp] theorem State.setD_x (v : Word) : (s.setD v).x = s.x := rfl
@[simp] theorem State.setD_y (v : Word) : (s.setD v).y = s.y := rfl
@[simp] theorem State.setD_sp (v : Word) : (s.setD v).sp = s.sp := rfl
@[simp] theorem State.setD_pc (v : Word) : (s.setD v).pc = s.pc := rfl
@[simp] theorem State.setD_ccr (v : Word) : (s.setD v).ccr = s.ccr := rfl
@[simp] theorem State.setD_runState (v : Word) : (s.setD v).runState = s.runState := rfl
@[simp] theorem State.setD_inhibit (v : Word) : (s.setD v).inhibit = s.inhibit := rfl
@[simp] theorem State.setD_resetReq (v : Word) : (s.setD v).resetReq = s.resetReq := rfl
@[simp] theorem State.setD_pending (v : Word) : (s.setD v).pending = s.pending := rfl
@[simp] theorem State.setD_inputs (v : Word) : (s.setD v).inputs = s.inputs := rfl
@[simp] theorem State.setD_mem (v : Word) : (s.setD v).mem = s.mem := rfl
@[simp] theorem State.setD_ioLog (v : Word) : (s.setD v).ioLog = s.ioLog := rfl
@[simp] theorem State.setD_draws (v : Word) : (s.setD v).draws = s.draws := rfl
@[simp] theorem State.setD_params (v : Word) : (s.setD v).params = s.params := rfl

/-! ## byteAt depends on memory alone -/

@[simp] theorem byteAt_setA (v : Byte) (p : Word) : (s.setA v).byteAt p = s.byteAt p := rfl
@[simp] theorem byteAt_setB (v : Byte) (p : Word) : (s.setB v).byteAt p = s.byteAt p := rfl
@[simp] theorem byteAt_setX (v : Word) (p : Word) : (s.setX v).byteAt p = s.byteAt p := rfl
@[simp] theorem byteAt_setY (v : Word) (p : Word) : (s.setY v).byteAt p = s.byteAt p := rfl
@[simp] theorem byteAt_setSp (v : Word) (p : Word) : (s.setSp v).byteAt p = s.byteAt p := rfl
@[simp] theorem byteAt_setPc (v : Word) (p : Word) : (s.setPc v).byteAt p = s.byteAt p := rfl
@[simp] theorem byteAt_setCcr (v : Byte) (p : Word) : (s.setCcr v).byteAt p = s.byteAt p := rfl
@[simp] theorem byteAt_setRunState (v : RunState) (p : Word) : (s.setRunState v).byteAt p = s.byteAt p := rfl
@[simp] theorem byteAt_setInhibit (v : Bool) (p : Word) : (s.setInhibit v).byteAt p = s.byteAt p := rfl
@[simp] theorem byteAt_setResetReq (v : Bool) (p : Word) : (s.setResetReq v).byteAt p = s.byteAt p := rfl
@[simp] theorem byteAt_setPending (v : List SourceName) (p : Word) : (s.setPending v).byteAt p = s.byteAt p := rfl
@[simp] theorem byteAt_setInputs (v : List EnvInput) (p : Word) : (s.setInputs v).byteAt p = s.byteAt p := rfl
@[simp] theorem byteAt_setIoLog (v : List IoEvent) (p : Word) : (s.setIoLog v).byteAt p = s.byteAt p := rfl
@[simp] theorem byteAt_setDraws (v : Nat) (p : Word) : (s.setDraws v).byteAt p = s.byteAt p := rfl
@[simp] theorem byteAt_setD (v : Word) (p : Word) : (s.setD v).byteAt p = s.byteAt p := rfl
@[simp] theorem byteAt_readByte (q : Word) (p : Word) : (readByte q s).2.byteAt p = s.byteAt p := by simp [State.byteAt]
@[simp] theorem byteAt_readWord (q : Word) (p : Word) : (readWord q s).2.byteAt p = s.byteAt p := by simp [State.byteAt]
@[simp] theorem byteAt_readSrc8 (src : Src8) (p : Word) : (readSrc8 src s).2.byteAt p = s.byteAt p := by simp [State.byteAt]
@[simp] theorem byteAt_readSrc16 (src : Src16) (p : Word) : (readSrc16 src s).2.byteAt p = s.byteAt p := by simp [State.byteAt]
@[simp] theorem byteAt_pull8 (p : Word) : (pull8 s).2.byteAt p = s.byteAt p := by simp [State.byteAt]
@[simp] theorem byteAt_pull16 (p : Word) : (pull16 s).2.byteAt p = s.byteAt p := by simp [State.byteAt]

/-! ## The canonical form is kept -/

theorem writeWord_wf {s : State} (h : s.mem.wf = true) (p v : Word) : (writeWord p v s).mem.wf = true :=
  writeByte_wf (writeByte_wf h p (hi v)) (p + 1) (lo v)

theorem push8_wf {s : State} (h : s.mem.wf = true) (v : Byte) : (push8 v s).mem.wf = true :=
  writeByte_wf h s.sp v

theorem push16_wf {s : State} (h : s.mem.wf = true) (v : Word) : (push16 v s).mem.wf = true :=
  push8_wf (push8_wf h (lo v)) (hi v)

theorem pushContext_wf {s : State} (h : s.mem.wf = true) (ret : Word) : (pushContext ret s).mem.wf = true :=
  push8_wf (push8_wf (push8_wf (push16_wf (push16_wf (push16_wf h _) _) _) _) _) _

/-! ## What a push and a pull do -/

/-- A push stores at SP, then SP moves down by one (00_scope.md R14). -/
theorem push8_byteAt {s : State} (h : s.mem.wf = true) (v : Byte) (p : Word) :
    (push8 v s).byteAt p = if p = s.sp ∧ kindAt s.params s.sp = .ram then v else s.byteAt p :=
  writeByte_byteAt h s.sp v p

/-- A pull is a read at SP + 1, SP moved up by one (00_scope.md R14). -/
theorem pull8_eq : pull8 s = ((readByte (s.sp + 1) s).1, (readByte (s.sp + 1) s).2.setSp (s.sp + 1)) := by
  simp [pull8]

/-- A word pulled is a 16-bit read at SP + 1, SP moved up by two (40_load_store_transfer.md R212). -/
theorem pull16_eq : pull16 s = ((readWord (s.sp + 1) s).1, (readWord (s.sp + 1) s).2.setSp (s.sp + 2)) := by
  have e : s.sp + 1 + 1 = s.sp + 2 := by bv_omega
  simp only [pull16, pull8, readWord, State.setSp_sp, readByte_setSp, State.setSp_setSp, e]

/-- After a write of one byte, then a plain read there, the byte comes back (20_memory.md R72, R74). -/
theorem readByte_writeByte {s : State} (h : s.mem.wf = true) {p : Word} (hr : kindAt s.params p = .ram) (v : Byte) :
    (readByte p (writeByte p v s)).1 = v := by
  rw [readByte_plain (Or.inl (by simpa using hr))]
  simp [writeByte_byteAt h, hr]

end Sys2Proof.Machine
end

