-- ==== Sys2Proof/Laws/Vocabulary.lean ====
section
/-! SUPPORT. The words of the statements and the operations of the machine: which writes an operation makes, and
which sums and differences the flag helpers say. -/

namespace Sys2Proof.Vocabulary

open Sys2Proof.Machine

/-- Where memory, the io log and the count of free values are as they were, nothing was written. -/
theorem Wrote.nil {s t : State} (hm : t.mem = s.mem) (hl : t.ioLog = s.ioLog) (hd : t.draws = s.draws) :
    Wrote [] s t :=
  ⟨fun w => by simp [afterWrites, State.byteAt, hm], hl, hd⟩

/-- The writes made depend on memory, the io log and the count of free values alone. -/
theorem Wrote.congr {ws : List (Word × Byte)} {s t u : State} (h : Wrote ws s t) (hm : u.mem = t.mem)
    (hl : u.ioLog = t.ioLog) (hd : u.draws = t.draws) : Wrote ws s u :=
  ⟨fun w => by rw [← h.1 w]; simp [State.byteAt, hm], hl.trans h.2.1, hd.trans h.2.2⟩

/-- One more byte written (20_memory.md R74). -/
theorem Wrote.cons {ws : List (Word × Byte)} {s t : State} (h : Wrote ws s t) (hw : t.mem.wf = true)
    (hp : t.params = s.params) (a : Word) (v : Byte) : Wrote ((a, v) :: ws) s (writeByte a v t) :=
  ⟨fun w => by simp only [writeByte_byteAt hw, hp, afterWrites, h.1 w],
    by simp only [writeByte_ioLog, hp, logAfterWrites, h.2.1],
    by rw [writeByte_draws]; exact h.2.2⟩

/-- A byte write makes that write (20_memory.md R74). -/
theorem Wrote.byte {s : State} (hw : s.mem.wf = true) (a : Word) (v : Byte) :
    Wrote [(a, v)] s (writeByte a v s) :=
  (Wrote.nil rfl rfl rfl).cons hw rfl a v

/-- A word write makes two (20_memory.md R75). -/
theorem Wrote.word {s : State} (hw : s.mem.wf = true) (a v : Word) :
    Wrote (wordWrites a v) s (writeWord a v s) :=
  (Wrote.byte hw a (hi v)).cons (writeByte_wf hw a (hi v)) (by simp) (a + 1) (lo v)

/-- One more byte pushed (00_scope.md R14). -/
theorem Wrote.push8 {ws : List (Word × Byte)} {s t : State} (h : Wrote ws s t) (hw : t.mem.wf = true)
    (hp : t.params = s.params) (v : Byte) : Wrote ((t.sp, v) :: ws) s (Machine.push8 v t) :=
  (h.cons hw hp t.sp v).congr rfl rfl rfl

/-- A 16-bit push makes two writes, the low byte first (10_state.md R37). -/
theorem Wrote.push16 {s : State} (hw : s.mem.wf = true) (v : Word) :
    Wrote (pushWrites s v) s (Machine.push16 v s) := by
  have h := ((Wrote.nil (s := s) rfl rfl rfl).push8 hw rfl (lo v)).push8 (push8_wf hw _) (by simp) (hi v)
  simpa [pushWrites, Machine.push16] using h

/-- Stacking the context makes the nine writes of 60_exceptions.md R510. -/
theorem Wrote.context {s : State} (hw : s.mem.wf = true) (ret : Word) :
    Wrote (contextWrites ret s) s (pushContext ret s) := by
  have h₁ := ((Wrote.nil (s := s) rfl rfl rfl).push8 hw rfl (lo ret)).push8 (push8_wf hw _) (by simp) (hi ret)
  have w₁ := push16_wf hw ret
  have h₂ := (h₁.push8 w₁ (by simp) (lo s.y)).push8 (push8_wf w₁ _) (by simp) (hi s.y)
  have w₂ := push16_wf w₁ s.y
  have h₃ := (h₂.push8 w₂ (by simp) (lo s.x)).push8 (push8_wf w₂ _) (by simp) (hi s.x)
  have w₃ := push16_wf w₂ s.x
  have h₄ := ((h₃.push8 w₃ (by simp) s.a).push8 (push8_wf w₃ _) (by simp) s.b).push8
    (push8_wf (push8_wf w₃ _) _) (by simp) s.ccr
  have e : ∀ k : BitVec 16, ∀ l : BitVec 16, s.sp - k - l = s.sp - (k + l) := by intro k l; bv_omega
  simpa [contextWrites, pushContext, Machine.push16, e] using h₄

/-! ## Sums and differences -/

/-- The result and flags of `add8` are those of the integer sum (00_scope.md R17). -/
theorem Summed8.of_ccr {a m ccr : Byte} {c : Bool} {t : State}
    (h : t.ccr = nzvc8 (putH ccr (add8 a m c).h) (add8 a m c).r (add8 a m c).v (add8 a m c).cy) :
    Summed8 a m c (add8 a m c).r t := by
  refine ⟨add8_result a m c, ⟨?_, ?_⟩, ?_, ?_, ?_⟩ <;> rw [h]
  · exact flagN_nzvc8 _ _ _ _
  · exact flagZ_nzvc8 _ _ _ _
  · rw [flagC_nzvc8]; exact add8_carry a m c
  · rw [flagH_nzvc8, flagH_putH]; exact add8_halfCarry a m c
  · rw [flagV_nzvc8]; exact add8_overflow a m c

/-- The result and flags of `sub8` are those of the integer difference (00_scope.md R17). -/
theorem Subtracted8.of_ccr {a m ccr : Byte} {c : Bool} {t : State}
    (h : t.ccr = nzvc8 ccr (sub8 a m c).r (sub8 a m c).v (sub8 a m c).bw) :
    Subtracted8 a m c (sub8 a m c).r t := by
  refine ⟨sub8_result a m c, ⟨?_, ?_⟩, ?_, ?_⟩ <;> rw [h]
  · exact flagN_nzvc8 _ _ _ _
  · exact flagZ_nzvc8 _ _ _ _
  · rw [flagC_nzvc8]; exact sub8_borrow a m c
  · rw [flagV_nzvc8]; exact sub8_overflow a m c

/-- The result and flags of `add16` are those of the integer sum (00_scope.md R17). -/
theorem Summed16.of_ccr {a m : Word} {ccr : Byte} {t : State}
    (h : t.ccr = nzvc16 ccr (add16 a m).r (add16 a m).v (add16 a m).cy) :
    Summed16 a m (add16 a m).r t := by
  refine ⟨add16_result a m, ⟨?_, ?_⟩, ?_, ?_⟩ <;> rw [h]
  · exact flagN_nzvc16 _ _ _ _
  · exact flagZ_nzvc16 _ _ _ _
  · rw [flagC_nzvc16]; exact add16_carry a m
  · rw [flagV_nzvc16]; exact add16_overflow a m

/-- The result and flags of `sub16` are those of the integer difference (00_scope.md R17). -/
theorem Subtracted16.of_ccr {a m : Word} {ccr : Byte} {t : State}
    (h : t.ccr = nzvc16 ccr (sub16 a m).r (sub16 a m).v (sub16 a m).cy) :
    Subtracted16 a m (sub16 a m).r t := by
  refine ⟨sub16_result a m, ⟨?_, ?_⟩, ?_, ?_⟩ <;> rw [h]
  · exact flagN_nzvc16 _ _ _ _
  · exact flagZ_nzvc16 _ _ _ _
  · rw [flagC_nzvc16]; exact sub16_borrow a m
  · rw [flagV_nzvc16]; exact sub16_overflow a m

end Sys2Proof.Vocabulary
end

