-- ==== Sys2Proof/Laws/Exceptions.lean ====
section
/-! SUPPORT. What taking an exception and returning from one do, said once (60_exceptions.md R510, R512;
45_system.md R460). -/

namespace Sys2Proof.Machine

open Sys2Proof.Vocabulary

/-- A list of nine stacked bytes is a context stacked. -/
theorem pushContext_stacked {s : State} (h : s.mem.wf = true) (ret : Word) : Stacked ret s (pushContext ret s) :=
  ⟨by simp, ⟨fun p hp => by cases p <;> simp [Part.value] at hp ⊢, by simp, by simp, by simp, by simp⟩,
    Wrote.context h ret⟩

/-- The end of every entry: the masks, then the vector. -/
theorem takeVector_taken (c : Cause) (s : State) :
    VectorTaken (vectorOf c s.params) (setsX c) s (takeVector c s) := by
  unfold takeVector
  refine ⟨?_, ?_, ?_, ⟨fun p hp => ?_, ?_, ?_, ?_, ?_⟩, Wrote.nil ?_ ?_ ?_⟩ <;>
    cases hc : setsX c <;> simp
  all_goals cases p <;> simp [Part.value] at hp ⊢

/-- Every entry: the context stacked, then the masks and the vector. -/
theorem enterInterrupt_entered {s : State} (h : s.mem.wf = true) (c : Cause) (ret : Word) :
    Entered (vectorOf c s.params) (setsX c) ret s (enterInterrupt c ret s) :=
  ⟨pushContext ret s, pushContext_stacked h ret, by
    have h₁ := takeVector_taken c (pushContext ret s)
    rwa [pushContext_params] at h₁⟩

/-- The return: nine bytes read upwards from SP + 1, the CCR through X's rule, then B, A, X, Y and PC. -/
theorem returnFromInterrupt_eq (s : State) : ∃ u c b a xh xl yh yl ph pl,
    readRun 9 (s.sp + 1) s = ([c, b, a, xh, xl, yh, yl, ph, pl], u) ∧
    returnFromInterrupt s = ((((((u.setCcr (loadCcr s.ccr c)).setB b).setA a).setX (cat xh xl)).setY
      (cat yh yl)).setSp (s.sp + 9)).setPc (cat ph pl) := by
  have h₀ : s.sp + 9 = s.sp + 1#16 + 1#16 + 1#16 + 1#16 + 1#16 + 1#16 + 1#16 + 1#16 + 1#16 := by bv_omega
  rcases h0 : readByte (s.sp + 1#16) s with ⟨c, u0⟩
  rcases h1 : readByte (s.sp + 1#16 + 1#16) u0 with ⟨b, u1⟩
  rcases h2 : readByte (s.sp + 1#16 + 1#16 + 1#16) u1 with ⟨a, u2⟩
  rcases h3 : readByte (s.sp + 1#16 + 1#16 + 1#16 + 1#16) u2 with ⟨xh, u3⟩
  rcases h4 : readByte (s.sp + 1#16 + 1#16 + 1#16 + 1#16 + 1#16) u3 with ⟨xl, u4⟩
  rcases h5 : readByte (s.sp + 1#16 + 1#16 + 1#16 + 1#16 + 1#16 + 1#16) u4 with ⟨yh, u5⟩
  rcases h6 : readByte (s.sp + 1#16 + 1#16 + 1#16 + 1#16 + 1#16 + 1#16 + 1#16) u5 with ⟨yl, u6⟩
  rcases h7 : readByte (s.sp + 1#16 + 1#16 + 1#16 + 1#16 + 1#16 + 1#16 + 1#16 + 1#16) u6 with ⟨ph, u7⟩
  rcases h8 : readByte (s.sp + 1#16 + 1#16 + 1#16 + 1#16 + 1#16 + 1#16 + 1#16 + 1#16 + 1#16) u7 with ⟨pl, u8⟩
  have ha : u0.ccr = s.ccr := by rw [← readByte_ccr (s := s) (s.sp + 1#16), h0]
  refine ⟨u8, c, b, a, xh, xl, yh, yl, ph, pl, by simp [readRun, h0, h1, h2, h3, h4, h5, h6, h7, h8], ?_⟩
  rw [h₀]
  clear h₀
  simp [returnFromInterrupt, pull16, pull8_eq, h0, h1, h2, h3, h4, h5, h6, h7, h8, ha] 
  simp only [State.setSp, State.setCcr, State.setB, State.setA, State.setX, State.setY, State.setPc]

end Sys2Proof.Machine
end

