-- ==== Sys2Proof/Laws/Control.lean ====
section
/-! SUPPORT. What the shared operations of branches, calls, divisions and the inhibit do, each said once
(44_branch_jump.md R410, R411, R433, R442; 41_arithmetic.md R280, R281; 70_reset_and_hazards.md R560). -/

namespace Sys2Proof.Machine

open Sys2Proof.Vocabulary

/-- The target of a branch is PCnext plus the signed displacement, modulo 65536. -/
theorem branchTarget_isTarget (rr : Byte) (s : State) : IsTarget s.pc rr (branchTarget rr s) := by
  unfold IsTarget branchTarget sext16
  rw [BitVec.toNat_add, BitVec.toNat_signExtend]
  have h₁ := rr.isLt
  have h₂ := s.pc.isLt
  rw [BitVec.toInt_eq_toNat_cond, BitVec.msb_eq_decide]
  simp only [BitVec.toNat_setWidth]
  by_cases h : 128 ≤ rr.toNat
  · simp only [h, decide_true, if_true, show ¬ 2 * rr.toNat < 2 ^ 8 by omega, if_false]
    omega
  · simp only [h, decide_false, Bool.false_eq_true, if_false, show 2 * rr.toNat < 2 ^ 8 by omega, if_true]
    omega

/-- A conditional branch, whole. -/
theorem branchIf_branches (cond : Bool) (rr : Byte) (s : State) : BranchesIf cond rr s (branchIf cond rr s) := by
  cases cond
  · exact ⟨rfl, ⟨fun _ _ => rfl, rfl, rfl, rfl, rfl⟩, Wrote.nil rfl rfl rfl⟩
  · refine ⟨branchTarget_isTarget rr s, ⟨fun p hp => ?_, rfl, rfl, rfl, rfl⟩, Wrote.nil rfl rfl rfl⟩
    cases p <;> first | rfl | simp at hp

/-- A call, whole: PCnext stacked, PC the target. -/
theorem call_called {s : State} (h : s.mem.wf = true) (target : Word) :
    (call target s).pc = target ∧ (call target s).sp = s.sp - 2 ∧ Wrote (pushWrites s s.pc) s (call target s) ∧
      KeepsBut [.sp, .pc] s (call target s) := by
  unfold call
  refine ⟨rfl, by simp, (Wrote.push16 h s.pc).congr rfl rfl rfl, ⟨fun p hp => ?_, by simp, by simp, by simp, by simp⟩⟩
  cases p <;> simp [Part.value] at hp ⊢

/-- The CCR loaded by CLI or TAP: the inhibit is set when I falls, and is else as it was. -/
theorem setCcrInhibiting_eq (new : Byte) (s : State) :
    setCcrInhibiting new s = (s.setCcr new).setInhibit (s.inhibit || (flagI s.ccr && !flagI new)) := by
  unfold setCcrInhibiting
  cases hi : flagI s.ccr <;> cases hn : flagI new <;> cases hh : s.inhibit <;>
    simp [State.setCcr, State.setInhibit, hh]

/-- The results of a division: the quotient in X and the CCR; in D the remainder, or the free value, drawn. -/
theorem divideInto_eq (free : Word) (o : Division) (s : State) :
    divideInto free o s = match o.remainder with
      | some r => ((s.setX o.quotient).setCcr o.ccr).setD r
      | none => (((s.setX o.quotient).setCcr o.ccr).setD free).setDraws (s.draws + 1) := rfl

end Sys2Proof.Machine
end

