-- ==== Sys2Proof/Laws/Cycle.lean ====
section
/-! SUPPORT. The parts of a step: which source is served, and the fetch as a run of byte reads
(60_exceptions.md R506 to R514; 30_encoding.md R112). -/

namespace Sys2Proof.Machine

open Sys2Proof.Vocabulary

/-! ## Which source is served -/

/-- The unmasked requested sources are the deliverable ones. -/
theorem mem_unmasked {s : State} {q : IntSource} : q ∈ unmasked s ↔ Deliverable s q := by
  unfold unmasked requested Deliverable isMasked
  cases hc : q.cls <;> simp [hc, and_comm]

/-- Nothing is served exactly when there is nothing to serve. -/
theorem highest_eq_none {qs : List IntSource} : highest qs = none ↔ qs = [] := by
  cases qs with
  | nil => simp [highest]
  | cons q rest =>
    simp only [highest]
    split
    · simp
    · split <;> simp

/-- One source precedes another, in words. -/
theorem precedes_eq_true {p q : IntSource} :
    precedes p q = true ↔ (p.cls = .classX ∧ q.cls = .classI) ∨ (p.cls = q.cls ∧ p.rank < q.rank) := by
  cases hp : p.cls <;> cases hq : q.cls <;> simp [precedes, hp, hq]

/-- The source served is one of those requested, and first among them. -/
theorem highest_first {qs : List IntSource} {q : IntSource} (h : highest qs = some q) : First (· ∈ qs) q := by
  induction qs generalizing q with
  | nil => simp [highest] at h
  | cons p rest ih =>
    simp only [highest] at h
    split at h
    · rename_i hn
      rw [highest_eq_none] at hn
      subst hn
      injection h with h
      subst h
      exact ⟨by simp, fun r hr => by simp at hr; subst hr; simp⟩
    · rename_i w hw
      have hf := ih hw
      split at h <;> rename_i hp
      · injection h with h
        subst h
        refine ⟨by simp [hf.1], fun r hr => ?_⟩
        rcases List.mem_cons.1 hr with hr | hr
        · subst hr
          rcases precedes_eq_true.1 hp with h' | h'
          · exact .inl h'
          · exact .inr ⟨h'.1, by omega⟩
        · exact hf.2 r hr
      · injection h with h
        subst h
        refine ⟨by simp, fun r hr => ?_⟩
        rw [precedes_eq_true] at hp
        rcases List.mem_cons.1 hr with hr | hr
        · subst hr
          exact .inr ⟨rfl, Nat.le_refl _⟩
        · have hw' := hf.2 r hr
          cases hcp : p.cls <;> cases hcw : w.cls <;> cases hcr : r.cls <;>
            simp [hcp, hcw, hcr] at hp hw' ⊢ <;> omega

/-- Several sources: one is served, and it is first among them. -/
theorem exists_highest {qs : List IntSource} (h : qs ≠ []) : ∃ q, highest qs = some q ∧ First (· ∈ qs) q := by
  cases hq : highest qs with
  | none => exact absurd (highest_eq_none.1 hq) h
  | some q => exact ⟨q, rfl, highest_first hq⟩

/-! ## A run of byte reads -/

/-- A read of a byte writes neither PC nor anything that PC stands in the way of. -/
theorem readRun_setPc (n : Nat) (a : Word) (s : State) (v : Word) :
    readRun n a (s.setPc v) = ((readRun n a s).1, (readRun n a s).2.setPc v) := by
  induction n generalizing a s with
  | zero => rfl
  | succ n ih => simp [readRun, ih]

@[simp] theorem readRun_length (n : Nat) (a : Word) (s : State) : (readRun n a s).1.length = n := by
  induction n generalizing a s with
  | zero => rfl
  | succ n ih => simp [readRun, ih]

/-- What a run of byte reads may change: the io log and the count of free values. -/
theorem readRun_state (n : Nat) (a : Word) (s : State) :
    (readRun n a s).2 = (s.setIoLog (readRun n a s).2.ioLog).setDraws (readRun n a s).2.draws := by
  induction n generalizing a s with
  | zero => rfl
  | succ n ih =>
    simp only [readRun]
    rw [ih (a + 1) (readByte a s).2, readByte_state]
    rfl

/-- A run of byte reads in ram and rom: the bytes stored, and nothing changes. -/
theorem readRun_plain {n : Nat} {a : Word} {s : State} (h : ∀ k : Nat, k < n → Plain s (a + BitVec.ofNat 16 k)) :
    (readRun n a s).2 = s := by
  induction n generalizing a with
  | zero => rfl
  | succ n ih =>
    have h₀ := h 0 (by omega)
    simp at h₀
    simp only [readRun, readByte_plain h₀]
    refine ih fun k hk => ?_
    have h₁ := h (k + 1) (by omega)
    rwa [show a + BitVec.ofNat 16 (k + 1) = a + 1 + BitVec.ofNat 16 k by
      rw [BitVec.add_assoc, Nat.add_comm k 1, BitVec.ofNat_add]; rfl] at h₁

/-! ## Fetching -/

/-- One byte fetched: read, PC moved on. -/
theorem fetch8_eq (s : State) : fetch8 s = ((readByte s.pc s).1, (readByte s.pc s).2.setPc (s.pc + 1)) := by
  simp [fetch8]

@[simp] theorem setPc_setPc (s : State) (u v : Word) : (s.setPc u).setPc v = s.setPc v := rfl

@[simp] theorem setPc_pc_self (s : State) : s.setPc s.pc = s := rfl

theorem fetch8_fst (s : State) : (fetch8 s).1 = (readByte s.pc s).1 := rfl

/-- Operand bytes that decode are fetched so. -/
theorem fetchOperands_of_decode {t : Template} {n : Nat} {s : State} {i : Instr}
    (h : decodeOperands t (readRun n s.pc s).1 = .ok i []) :
    fetchOperands t s = .instr i ((readRun n s.pc s).2.setPc (s.pc + BitVec.ofNat 16 n)) := by
  rcases n with _ | _ | _ | _ | n <;> cases t <;>
    simp [readRun, decodeOperands, fetchOperands, fetch8_eq, BitVec.add_assoc] at h ⊢ <;> exact h

/-- An opcode's bytes that decode are fetched so. -/
theorem fetchCell_of_decode {p : Page} {op : Byte} {n : Nat} {s : State} {i : Instr}
    (h : decodeOpcode p op (readRun n s.pc s).1 = .ok i []) :
    fetchCell p op s = .instr i ((readRun n s.pc s).2.setPc (s.pc + BitVec.ofNat 16 n)) := by
  unfold decodeOpcode at h
  unfold fetchCell
  cases hc : opcodeCell p op with
  | none => rw [hc] at h; cases h
  | some t => rw [hc] at h; exact fetchOperands_of_decode h

/-- After one fetched byte, a run of reads from there is the rest of a run from before it. -/
theorem readRun_fetch8 (n : Nat) (s : State) :
    (readRun n (fetch8 s).2.pc (fetch8 s).2).1 = (readRun n (s.pc + 1) (readByte s.pc s).2).1 ∧
    (readRun n (fetch8 s).2.pc (fetch8 s).2).2.setPc ((fetch8 s).2.pc + BitVec.ofNat 16 n) =
      (readRun (n + 1) s.pc s).2.setPc (s.pc + BitVec.ofNat 16 (n + 1)) := by
  rw [fetch8_eq, State.setPc_pc, readRun_setPc]
  refine ⟨rfl, ?_⟩
  rw [setPc_setPc, readRun, Nat.add_comm n 1, BitVec.ofNat_add, BitVec.add_assoc]
  rfl

/-- The bytes at PC that decode with nothing left over are what is fetched, PC moved past them
(30_encoding.md R112). -/
theorem fetchInstr_of_decode {n : Nat} {s : State} {i : Instr} (h : decode (readRun n s.pc s).1 = .ok i []) :
    fetchInstr s = .instr i ((readRun n s.pc s).2.setPc (s.pc + BitVec.ofNat 16 n)) := by
  rcases n with _ | n
  · cases h
  obtain ⟨h₁, h₂⟩ := readRun_fetch8 n s
  unfold fetchInstr
  simp only [readRun, decode] at h
  rw [← h₂]
  simp only [fetch8_fst]
  cases hp : prebytePage (readByte s.pc s).1 with
  | none =>
    simp only [hp] at h ⊢
    exact fetchCell_of_decode (h₁ ▸ h)
  | some p =>
    rcases n with _ | n
    · simp [readRun, hp] at h
    obtain ⟨h₃, h₄⟩ := readRun_fetch8 n (fetch8 s).2
    rw [← h₄]
    simp only [hp] at h ⊢
    rw [← h₁] at h
    simp only [readRun] at h
    rw [← h₃] at h
    exact fetchCell_of_decode h

/-- Only an empty cell of the map decodes to an illegal opcode. -/
theorem decodeOpcode_illegal {p q : Page} {op op' : Byte} {bytes : List Byte}
    (h : decodeOpcode p op bytes = .rejected (.illegalOpcode q op')) : opcodeCell p op = none ∧ p = q := by
  unfold decodeOpcode at h
  cases hc : opcodeCell p op with
  | none =>
    rw [hc] at h
    injection h with h
    injection h with h₁ h₂
    exact ⟨rfl, h₁⟩
  | some t =>
    rw [hc] at h
    cases t <;> rcases bytes with _ | ⟨_, _ | ⟨_, _ | ⟨_, _⟩⟩⟩ <;> simp [decodeOperands] at h

/-- The bytes of an undefined opcode at PC, one or a prebyte and one, are fetched as such
(60_exceptions.md R503). -/
theorem fetchInstr_of_illegal {n : Nat} {s : State} {p : Page} {op : Byte} (hn : n = if p = .p1 then 1 else 2)
    (h : decode (readRun n s.pc s).1 = .rejected (.illegalOpcode p op)) :
    fetchInstr s = .illegal ((readRun n s.pc s).2.setPc (s.pc + BitVec.ofNat 16 n)) := by
  obtain ⟨-, h₂⟩ := readRun_fetch8 0 s
  cases hp : prebytePage (readByte s.pc s).1 with
  | none =>
    rcases n with _ | n
    · cases h
    simp only [readRun, decode, hp] at h
    obtain ⟨hc, hq⟩ := decodeOpcode_illegal h
    subst hq
    injection hn with hn
    subst hn
    simp only [fetchInstr, fetch8_fst, hp, fetchCell, hc]
    rw [← h₂]
    simp [readRun]
  | some q =>
    rcases n with _ | _ | n
    · cases h
    · simp [readRun, decode, hp] at h
    simp only [readRun, decode, hp] at h
    obtain ⟨hc, hq⟩ := decodeOpcode_illegal h
    subst hq
    have hq : q ≠ .p1 := by
      unfold prebytePage at hp
      repeat' split at hp
      all_goals simp at hp <;> subst hp <;> simp
    rw [if_neg hq] at hn
    obtain rfl : n = 0 := by omega
    obtain ⟨-, h₃⟩ := readRun_fetch8 1 s
    obtain ⟨-, h₄⟩ := readRun_fetch8 0 (fetch8 s).2
    have hop : (fetch8 (fetch8 s).2).1 = (readByte (s.pc + 1) (readByte s.pc s).2).1 := by
      simp [fetch8_eq]
    simp only [fetchInstr, fetch8_fst s, hp, hop, fetchCell, hc]
    rw [← h₃, ← h₄]
    simp [readRun]

/-! ## The refused maps -/

/-- A map is refused exactly when it has a read-sensitive io region where the real CPU makes bus cycles that no
rule lists (20_memory.md R85). -/
theorem mapRefused_eq_true {p : Params} : mapRefused p = true ↔
    ∃ r, r ∈ p.memMap ∧ r.kind = .io ∧ r.readSensitive = true ∧ r.extraCycles = true := by
  simp [mapRefused, regionRefused, and_assoc]

end Sys2Proof.Machine
end

