-- ==== Sys2Proof/Laws/PerInstr.lean ====
section
/-! SUPPORT. What holds of every instruction as syntax, one lemma for each constructor: its bytes are one to five,
and a second spelling has the bytes of the instruction it spells (30_encoding.md R110, R152). -/

namespace Sys2Proof

/-- An instruction is encoded in one to five bytes, and so is its core spelling, in the same ones
(30_encoding.md R110, R152). -/
def Laws.LengthAndSpelling.Statement (i : Instr) : Prop :=
  1 ≤ (encode i).length ∧ (encode i).length ≤ 5 ∧ encode i = encode i.core

/-- The statement, by computing. -/
theorem lengthAndSpelling_of {i : Instr}
    (h : (Nat.ble 1 (encode i).length && Nat.ble (encode i).length 5) = true) (hc : encode i = encode i.core) :
    Laws.LengthAndSpelling.Statement i := by
  rw [Bool.and_eq_true] at h
  exact ⟨Nat.le_of_ble_eq_true h.1, Nat.le_of_ble_eq_true h.2, hc⟩

theorem Laws.LengthAndSpelling.ldaa (src : Src8) : Laws.LengthAndSpelling.Statement (.ldaa src) := by
  rcases src with ii | m
  · exact lengthAndSpelling_of rfl rfl
  · cases m <;> exact lengthAndSpelling_of rfl rfl
theorem Laws.LengthAndSpelling.ldab (src : Src8) : Laws.LengthAndSpelling.Statement (.ldab src) := by
  rcases src with ii | m
  · exact lengthAndSpelling_of rfl rfl
  · cases m <;> exact lengthAndSpelling_of rfl rfl
theorem Laws.LengthAndSpelling.ldd (src : Src16) : Laws.LengthAndSpelling.Statement (.ldd src) := by
  rcases src with ii | m
  · exact lengthAndSpelling_of rfl rfl
  · cases m <;> exact lengthAndSpelling_of rfl rfl
theorem Laws.LengthAndSpelling.lds (src : Src16) : Laws.LengthAndSpelling.Statement (.lds src) := by
  rcases src with ii | m
  · exact lengthAndSpelling_of rfl rfl
  · cases m <;> exact lengthAndSpelling_of rfl rfl
theorem Laws.LengthAndSpelling.ldx (src : Src16) : Laws.LengthAndSpelling.Statement (.ldx src) := by
  rcases src with ii | m
  · exact lengthAndSpelling_of rfl rfl
  · cases m <;> exact lengthAndSpelling_of rfl rfl
theorem Laws.LengthAndSpelling.ldy (src : Src16) : Laws.LengthAndSpelling.Statement (.ldy src) := by
  rcases src with ii | m
  · exact lengthAndSpelling_of rfl rfl
  · cases m <;> exact lengthAndSpelling_of rfl rfl
theorem Laws.LengthAndSpelling.psha : Laws.LengthAndSpelling.Statement .psha := lengthAndSpelling_of rfl rfl
theorem Laws.LengthAndSpelling.pshb : Laws.LengthAndSpelling.Statement .pshb := lengthAndSpelling_of rfl rfl
theorem Laws.LengthAndSpelling.pshx : Laws.LengthAndSpelling.Statement .pshx := lengthAndSpelling_of rfl rfl
theorem Laws.LengthAndSpelling.pshy : Laws.LengthAndSpelling.Statement .pshy := lengthAndSpelling_of rfl rfl
theorem Laws.LengthAndSpelling.pula : Laws.LengthAndSpelling.Statement .pula := lengthAndSpelling_of rfl rfl
theorem Laws.LengthAndSpelling.pulb : Laws.LengthAndSpelling.Statement .pulb := lengthAndSpelling_of rfl rfl
theorem Laws.LengthAndSpelling.pulx : Laws.LengthAndSpelling.Statement .pulx := lengthAndSpelling_of rfl rfl
theorem Laws.LengthAndSpelling.puly : Laws.LengthAndSpelling.Statement .puly := lengthAndSpelling_of rfl rfl
theorem Laws.LengthAndSpelling.staa (m : Mem) : Laws.LengthAndSpelling.Statement (.staa m) := by
  cases m <;> exact lengthAndSpelling_of rfl rfl
theorem Laws.LengthAndSpelling.stab (m : Mem) : Laws.LengthAndSpelling.Statement (.stab m) := by
  cases m <;> exact lengthAndSpelling_of rfl rfl
theorem Laws.LengthAndSpelling.std (m : Mem) : Laws.LengthAndSpelling.Statement (.std m) := by
  cases m <;> exact lengthAndSpelling_of rfl rfl
theorem Laws.LengthAndSpelling.sts (m : Mem) : Laws.LengthAndSpelling.Statement (.sts m) := by
  cases m <;> exact lengthAndSpelling_of rfl rfl
theorem Laws.LengthAndSpelling.stx (m : Mem) : Laws.LengthAndSpelling.Statement (.stx m) := by
  cases m <;> exact lengthAndSpelling_of rfl rfl
theorem Laws.LengthAndSpelling.sty (m : Mem) : Laws.LengthAndSpelling.Statement (.sty m) := by
  cases m <;> exact lengthAndSpelling_of rfl rfl
theorem Laws.LengthAndSpelling.tab : Laws.LengthAndSpelling.Statement .tab := lengthAndSpelling_of rfl rfl
theorem Laws.LengthAndSpelling.tap : Laws.LengthAndSpelling.Statement .tap := lengthAndSpelling_of rfl rfl
theorem Laws.LengthAndSpelling.tba : Laws.LengthAndSpelling.Statement .tba := lengthAndSpelling_of rfl rfl
theorem Laws.LengthAndSpelling.tpa : Laws.LengthAndSpelling.Statement .tpa := lengthAndSpelling_of rfl rfl
theorem Laws.LengthAndSpelling.tys : Laws.LengthAndSpelling.Statement .tys := lengthAndSpelling_of rfl rfl
theorem Laws.LengthAndSpelling.xgdx : Laws.LengthAndSpelling.Statement .xgdx := lengthAndSpelling_of rfl rfl
theorem Laws.LengthAndSpelling.xgdy : Laws.LengthAndSpelling.Statement .xgdy := lengthAndSpelling_of rfl rfl
theorem Laws.LengthAndSpelling.aba : Laws.LengthAndSpelling.Statement .aba := lengthAndSpelling_of rfl rfl
theorem Laws.LengthAndSpelling.abx : Laws.LengthAndSpelling.Statement .abx := lengthAndSpelling_of rfl rfl
theorem Laws.LengthAndSpelling.aby : Laws.LengthAndSpelling.Statement .aby := lengthAndSpelling_of rfl rfl
theorem Laws.LengthAndSpelling.adca (src : Src8) : Laws.LengthAndSpelling.Statement (.adca src) := by
  rcases src with ii | m
  · exact lengthAndSpelling_of rfl rfl
  · cases m <;> exact lengthAndSpelling_of rfl rfl
theorem Laws.LengthAndSpelling.adcb (src : Src8) : Laws.LengthAndSpelling.Statement (.adcb src) := by
  rcases src with ii | m
  · exact lengthAndSpelling_of rfl rfl
  · cases m <;> exact lengthAndSpelling_of rfl rfl
theorem Laws.LengthAndSpelling.adda (src : Src8) : Laws.LengthAndSpelling.Statement (.adda src) := by
  rcases src with ii | m
  · exact lengthAndSpelling_of rfl rfl
  · cases m <;> exact lengthAndSpelling_of rfl rfl
theorem Laws.LengthAndSpelling.addb (src : Src8) : Laws.LengthAndSpelling.Statement (.addb src) := by
  rcases src with ii | m
  · exact lengthAndSpelling_of rfl rfl
  · cases m <;> exact lengthAndSpelling_of rfl rfl
theorem Laws.LengthAndSpelling.addd (src : Src16) : Laws.LengthAndSpelling.Statement (.addd src) := by
  rcases src with ii | m
  · exact lengthAndSpelling_of rfl rfl
  · cases m <;> exact lengthAndSpelling_of rfl rfl
theorem Laws.LengthAndSpelling.cba : Laws.LengthAndSpelling.Statement .cba := lengthAndSpelling_of rfl rfl
theorem Laws.LengthAndSpelling.clr (m : MemNoDir) : Laws.LengthAndSpelling.Statement (.clr m) := by
  cases m <;> exact lengthAndSpelling_of rfl rfl
theorem Laws.LengthAndSpelling.clra : Laws.LengthAndSpelling.Statement .clra := lengthAndSpelling_of rfl rfl
theorem Laws.LengthAndSpelling.clrb : Laws.LengthAndSpelling.Statement .clrb := lengthAndSpelling_of rfl rfl
theorem Laws.LengthAndSpelling.cmpa (src : Src8) : Laws.LengthAndSpelling.Statement (.cmpa src) := by
  rcases src with ii | m
  · exact lengthAndSpelling_of rfl rfl
  · cases m <;> exact lengthAndSpelling_of rfl rfl
theorem Laws.LengthAndSpelling.cmpb (src : Src8) : Laws.LengthAndSpelling.Statement (.cmpb src) := by
  rcases src with ii | m
  · exact lengthAndSpelling_of rfl rfl
  · cases m <;> exact lengthAndSpelling_of rfl rfl
theorem Laws.LengthAndSpelling.cpd (src : Src16) : Laws.LengthAndSpelling.Statement (.cpd src) := by
  rcases src with ii | m
  · exact lengthAndSpelling_of rfl rfl
  · cases m <;> exact lengthAndSpelling_of rfl rfl
theorem Laws.LengthAndSpelling.cpx (src : Src16) : Laws.LengthAndSpelling.Statement (.cpx src) := by
  rcases src with ii | m
  · exact lengthAndSpelling_of rfl rfl
  · cases m <;> exact lengthAndSpelling_of rfl rfl
theorem Laws.LengthAndSpelling.cpy (src : Src16) : Laws.LengthAndSpelling.Statement (.cpy src) := by
  rcases src with ii | m
  · exact lengthAndSpelling_of rfl rfl
  · cases m <;> exact lengthAndSpelling_of rfl rfl
theorem Laws.LengthAndSpelling.daa : Laws.LengthAndSpelling.Statement .daa := lengthAndSpelling_of rfl rfl
theorem Laws.LengthAndSpelling.dec (m : MemNoDir) : Laws.LengthAndSpelling.Statement (.dec m) := by
  cases m <;> exact lengthAndSpelling_of rfl rfl
theorem Laws.LengthAndSpelling.deca : Laws.LengthAndSpelling.Statement .deca := lengthAndSpelling_of rfl rfl
theorem Laws.LengthAndSpelling.decb : Laws.LengthAndSpelling.Statement .decb := lengthAndSpelling_of rfl rfl
theorem Laws.LengthAndSpelling.des : Laws.LengthAndSpelling.Statement .des := lengthAndSpelling_of rfl rfl
theorem Laws.LengthAndSpelling.dex : Laws.LengthAndSpelling.Statement .dex := lengthAndSpelling_of rfl rfl
theorem Laws.LengthAndSpelling.dey : Laws.LengthAndSpelling.Statement .dey := lengthAndSpelling_of rfl rfl
theorem Laws.LengthAndSpelling.fdiv : Laws.LengthAndSpelling.Statement .fdiv := lengthAndSpelling_of rfl rfl
theorem Laws.LengthAndSpelling.idiv : Laws.LengthAndSpelling.Statement .idiv := lengthAndSpelling_of rfl rfl
theorem Laws.LengthAndSpelling.inc (m : MemNoDir) : Laws.LengthAndSpelling.Statement (.inc m) := by
  cases m <;> exact lengthAndSpelling_of rfl rfl
theorem Laws.LengthAndSpelling.inca : Laws.LengthAndSpelling.Statement .inca := lengthAndSpelling_of rfl rfl
theorem Laws.LengthAndSpelling.incb : Laws.LengthAndSpelling.Statement .incb := lengthAndSpelling_of rfl rfl
theorem Laws.LengthAndSpelling.ins : Laws.LengthAndSpelling.Statement .ins := lengthAndSpelling_of rfl rfl
theorem Laws.LengthAndSpelling.inx : Laws.LengthAndSpelling.Statement .inx := lengthAndSpelling_of rfl rfl
theorem Laws.LengthAndSpelling.iny : Laws.LengthAndSpelling.Statement .iny := lengthAndSpelling_of rfl rfl
theorem Laws.LengthAndSpelling.mul : Laws.LengthAndSpelling.Statement .mul := lengthAndSpelling_of rfl rfl
theorem Laws.LengthAndSpelling.neg (m : MemNoDir) : Laws.LengthAndSpelling.Statement (.neg m) := by
  cases m <;> exact lengthAndSpelling_of rfl rfl
theorem Laws.LengthAndSpelling.nega : Laws.LengthAndSpelling.Statement .nega := lengthAndSpelling_of rfl rfl
theorem Laws.LengthAndSpelling.negb : Laws.LengthAndSpelling.Statement .negb := lengthAndSpelling_of rfl rfl
theorem Laws.LengthAndSpelling.sba : Laws.LengthAndSpelling.Statement .sba := lengthAndSpelling_of rfl rfl
theorem Laws.LengthAndSpelling.sbca (src : Src8) : Laws.LengthAndSpelling.Statement (.sbca src) := by
  rcases src with ii | m
  · exact lengthAndSpelling_of rfl rfl
  · cases m <;> exact lengthAndSpelling_of rfl rfl
theorem Laws.LengthAndSpelling.sbcb (src : Src8) : Laws.LengthAndSpelling.Statement (.sbcb src) := by
  rcases src with ii | m
  · exact lengthAndSpelling_of rfl rfl
  · cases m <;> exact lengthAndSpelling_of rfl rfl
theorem Laws.LengthAndSpelling.suba (src : Src8) : Laws.LengthAndSpelling.Statement (.suba src) := by
  rcases src with ii | m
  · exact lengthAndSpelling_of rfl rfl
  · cases m <;> exact lengthAndSpelling_of rfl rfl
theorem Laws.LengthAndSpelling.subb (src : Src8) : Laws.LengthAndSpelling.Statement (.subb src) := by
  rcases src with ii | m
  · exact lengthAndSpelling_of rfl rfl
  · cases m <;> exact lengthAndSpelling_of rfl rfl
theorem Laws.LengthAndSpelling.subd (src : Src16) : Laws.LengthAndSpelling.Statement (.subd src) := by
  rcases src with ii | m
  · exact lengthAndSpelling_of rfl rfl
  · cases m <;> exact lengthAndSpelling_of rfl rfl
theorem Laws.LengthAndSpelling.anda (src : Src8) : Laws.LengthAndSpelling.Statement (.anda src) := by
  rcases src with ii | m
  · exact lengthAndSpelling_of rfl rfl
  · cases m <;> exact lengthAndSpelling_of rfl rfl
theorem Laws.LengthAndSpelling.andb (src : Src8) : Laws.LengthAndSpelling.Statement (.andb src) := by
  rcases src with ii | m
  · exact lengthAndSpelling_of rfl rfl
  · cases m <;> exact lengthAndSpelling_of rfl rfl
theorem Laws.LengthAndSpelling.bclr (m : MemBit) (mm : Byte) : Laws.LengthAndSpelling.Statement (.bclr m mm) := by
  cases m <;> exact lengthAndSpelling_of rfl rfl
theorem Laws.LengthAndSpelling.bita (src : Src8) : Laws.LengthAndSpelling.Statement (.bita src) := by
  rcases src with ii | m
  · exact lengthAndSpelling_of rfl rfl
  · cases m <;> exact lengthAndSpelling_of rfl rfl
theorem Laws.LengthAndSpelling.bitb (src : Src8) : Laws.LengthAndSpelling.Statement (.bitb src) := by
  rcases src with ii | m
  · exact lengthAndSpelling_of rfl rfl
  · cases m <;> exact lengthAndSpelling_of rfl rfl
theorem Laws.LengthAndSpelling.bset (m : MemBit) (mm : Byte) : Laws.LengthAndSpelling.Statement (.bset m mm) := by
  cases m <;> exact lengthAndSpelling_of rfl rfl
theorem Laws.LengthAndSpelling.clc : Laws.LengthAndSpelling.Statement .clc := lengthAndSpelling_of rfl rfl
theorem Laws.LengthAndSpelling.cli : Laws.LengthAndSpelling.Statement .cli := lengthAndSpelling_of rfl rfl
theorem Laws.LengthAndSpelling.clv : Laws.LengthAndSpelling.Statement .clv := lengthAndSpelling_of rfl rfl
theorem Laws.LengthAndSpelling.com (m : MemNoDir) : Laws.LengthAndSpelling.Statement (.com m) := by
  cases m <;> exact lengthAndSpelling_of rfl rfl
theorem Laws.LengthAndSpelling.coma : Laws.LengthAndSpelling.Statement .coma := lengthAndSpelling_of rfl rfl
theorem Laws.LengthAndSpelling.comb : Laws.LengthAndSpelling.Statement .comb := lengthAndSpelling_of rfl rfl
theorem Laws.LengthAndSpelling.eora (src : Src8) : Laws.LengthAndSpelling.Statement (.eora src) := by
  rcases src with ii | m
  · exact lengthAndSpelling_of rfl rfl
  · cases m <;> exact lengthAndSpelling_of rfl rfl
theorem Laws.LengthAndSpelling.eorb (src : Src8) : Laws.LengthAndSpelling.Statement (.eorb src) := by
  rcases src with ii | m
  · exact lengthAndSpelling_of rfl rfl
  · cases m <;> exact lengthAndSpelling_of rfl rfl
theorem Laws.LengthAndSpelling.oraa (src : Src8) : Laws.LengthAndSpelling.Statement (.oraa src) := by
  rcases src with ii | m
  · exact lengthAndSpelling_of rfl rfl
  · cases m <;> exact lengthAndSpelling_of rfl rfl
theorem Laws.LengthAndSpelling.orab (src : Src8) : Laws.LengthAndSpelling.Statement (.orab src) := by
  rcases src with ii | m
  · exact lengthAndSpelling_of rfl rfl
  · cases m <;> exact lengthAndSpelling_of rfl rfl
theorem Laws.LengthAndSpelling.sec : Laws.LengthAndSpelling.Statement .sec := lengthAndSpelling_of rfl rfl
theorem Laws.LengthAndSpelling.sei : Laws.LengthAndSpelling.Statement .sei := lengthAndSpelling_of rfl rfl
theorem Laws.LengthAndSpelling.sev : Laws.LengthAndSpelling.Statement .sev := lengthAndSpelling_of rfl rfl
theorem Laws.LengthAndSpelling.asl (m : MemNoDir) : Laws.LengthAndSpelling.Statement (.asl m) := by
  cases m <;> exact lengthAndSpelling_of rfl rfl
theorem Laws.LengthAndSpelling.asla : Laws.LengthAndSpelling.Statement .asla := lengthAndSpelling_of rfl rfl
theorem Laws.LengthAndSpelling.aslb : Laws.LengthAndSpelling.Statement .aslb := lengthAndSpelling_of rfl rfl
theorem Laws.LengthAndSpelling.asld : Laws.LengthAndSpelling.Statement .asld := lengthAndSpelling_of rfl rfl
theorem Laws.LengthAndSpelling.asr (m : MemNoDir) : Laws.LengthAndSpelling.Statement (.asr m) := by
  cases m <;> exact lengthAndSpelling_of rfl rfl
theorem Laws.LengthAndSpelling.asra : Laws.LengthAndSpelling.Statement .asra := lengthAndSpelling_of rfl rfl
theorem Laws.LengthAndSpelling.asrb : Laws.LengthAndSpelling.Statement .asrb := lengthAndSpelling_of rfl rfl
theorem Laws.LengthAndSpelling.lsl (m : MemNoDir) : Laws.LengthAndSpelling.Statement (.lsl m) := by
  cases m <;> exact lengthAndSpelling_of rfl rfl
theorem Laws.LengthAndSpelling.lsla : Laws.LengthAndSpelling.Statement .lsla := lengthAndSpelling_of rfl rfl
theorem Laws.LengthAndSpelling.lslb : Laws.LengthAndSpelling.Statement .lslb := lengthAndSpelling_of rfl rfl
theorem Laws.LengthAndSpelling.lsld : Laws.LengthAndSpelling.Statement .lsld := lengthAndSpelling_of rfl rfl
theorem Laws.LengthAndSpelling.lsr (m : MemNoDir) : Laws.LengthAndSpelling.Statement (.lsr m) := by
  cases m <;> exact lengthAndSpelling_of rfl rfl
theorem Laws.LengthAndSpelling.lsra : Laws.LengthAndSpelling.Statement .lsra := lengthAndSpelling_of rfl rfl
theorem Laws.LengthAndSpelling.lsrb : Laws.LengthAndSpelling.Statement .lsrb := lengthAndSpelling_of rfl rfl
theorem Laws.LengthAndSpelling.lsrd : Laws.LengthAndSpelling.Statement .lsrd := lengthAndSpelling_of rfl rfl
theorem Laws.LengthAndSpelling.rol (m : MemNoDir) : Laws.LengthAndSpelling.Statement (.rol m) := by
  cases m <;> exact lengthAndSpelling_of rfl rfl
theorem Laws.LengthAndSpelling.rola : Laws.LengthAndSpelling.Statement .rola := lengthAndSpelling_of rfl rfl
theorem Laws.LengthAndSpelling.rolb : Laws.LengthAndSpelling.Statement .rolb := lengthAndSpelling_of rfl rfl
theorem Laws.LengthAndSpelling.ror (m : MemNoDir) : Laws.LengthAndSpelling.Statement (.ror m) := by
  cases m <;> exact lengthAndSpelling_of rfl rfl
theorem Laws.LengthAndSpelling.rora : Laws.LengthAndSpelling.Statement .rora := lengthAndSpelling_of rfl rfl
theorem Laws.LengthAndSpelling.rorb : Laws.LengthAndSpelling.Statement .rorb := lengthAndSpelling_of rfl rfl
theorem Laws.LengthAndSpelling.bcc (rr : Byte) : Laws.LengthAndSpelling.Statement (.bcc rr) := lengthAndSpelling_of rfl rfl
theorem Laws.LengthAndSpelling.bcs (rr : Byte) : Laws.LengthAndSpelling.Statement (.bcs rr) := lengthAndSpelling_of rfl rfl
theorem Laws.LengthAndSpelling.beq (rr : Byte) : Laws.LengthAndSpelling.Statement (.beq rr) := lengthAndSpelling_of rfl rfl
theorem Laws.LengthAndSpelling.bge (rr : Byte) : Laws.LengthAndSpelling.Statement (.bge rr) := lengthAndSpelling_of rfl rfl
theorem Laws.LengthAndSpelling.bgt (rr : Byte) : Laws.LengthAndSpelling.Statement (.bgt rr) := lengthAndSpelling_of rfl rfl
theorem Laws.LengthAndSpelling.bhi (rr : Byte) : Laws.LengthAndSpelling.Statement (.bhi rr) := lengthAndSpelling_of rfl rfl
theorem Laws.LengthAndSpelling.bhs (rr : Byte) : Laws.LengthAndSpelling.Statement (.bhs rr) := lengthAndSpelling_of rfl rfl
theorem Laws.LengthAndSpelling.ble (rr : Byte) : Laws.LengthAndSpelling.Statement (.ble rr) := lengthAndSpelling_of rfl rfl
theorem Laws.LengthAndSpelling.blo (rr : Byte) : Laws.LengthAndSpelling.Statement (.blo rr) := lengthAndSpelling_of rfl rfl
theorem Laws.LengthAndSpelling.bls (rr : Byte) : Laws.LengthAndSpelling.Statement (.bls rr) := lengthAndSpelling_of rfl rfl
theorem Laws.LengthAndSpelling.blt (rr : Byte) : Laws.LengthAndSpelling.Statement (.blt rr) := lengthAndSpelling_of rfl rfl
theorem Laws.LengthAndSpelling.bmi (rr : Byte) : Laws.LengthAndSpelling.Statement (.bmi rr) := lengthAndSpelling_of rfl rfl
theorem Laws.LengthAndSpelling.bne (rr : Byte) : Laws.LengthAndSpelling.Statement (.bne rr) := lengthAndSpelling_of rfl rfl
theorem Laws.LengthAndSpelling.bpl (rr : Byte) : Laws.LengthAndSpelling.Statement (.bpl rr) := lengthAndSpelling_of rfl rfl
theorem Laws.LengthAndSpelling.bra (rr : Byte) : Laws.LengthAndSpelling.Statement (.bra rr) := lengthAndSpelling_of rfl rfl
theorem Laws.LengthAndSpelling.brn (rr : Byte) : Laws.LengthAndSpelling.Statement (.brn rr) := lengthAndSpelling_of rfl rfl
theorem Laws.LengthAndSpelling.brclr (m : MemBit) (mm rr : Byte) : Laws.LengthAndSpelling.Statement (.brclr m mm rr) := by
  cases m <;> exact lengthAndSpelling_of rfl rfl
theorem Laws.LengthAndSpelling.brset (m : MemBit) (mm rr : Byte) : Laws.LengthAndSpelling.Statement (.brset m mm rr) := by
  cases m <;> exact lengthAndSpelling_of rfl rfl
theorem Laws.LengthAndSpelling.bsr (rr : Byte) : Laws.LengthAndSpelling.Statement (.bsr rr) := lengthAndSpelling_of rfl rfl
theorem Laws.LengthAndSpelling.bvc (rr : Byte) : Laws.LengthAndSpelling.Statement (.bvc rr) := lengthAndSpelling_of rfl rfl
theorem Laws.LengthAndSpelling.bvs (rr : Byte) : Laws.LengthAndSpelling.Statement (.bvs rr) := lengthAndSpelling_of rfl rfl
theorem Laws.LengthAndSpelling.jmp (m : MemNoDir) : Laws.LengthAndSpelling.Statement (.jmp m) := by
  cases m <;> exact lengthAndSpelling_of rfl rfl
theorem Laws.LengthAndSpelling.jsr (m : Mem) : Laws.LengthAndSpelling.Statement (.jsr m) := by
  cases m <;> exact lengthAndSpelling_of rfl rfl
theorem Laws.LengthAndSpelling.nop : Laws.LengthAndSpelling.Statement .nop := lengthAndSpelling_of rfl rfl
theorem Laws.LengthAndSpelling.rts : Laws.LengthAndSpelling.Statement .rts := lengthAndSpelling_of rfl rfl
theorem Laws.LengthAndSpelling.rti : Laws.LengthAndSpelling.Statement .rti := lengthAndSpelling_of rfl rfl
theorem Laws.LengthAndSpelling.stop : Laws.LengthAndSpelling.Statement .stop := lengthAndSpelling_of rfl rfl
theorem Laws.LengthAndSpelling.swi : Laws.LengthAndSpelling.Statement .swi := lengthAndSpelling_of rfl rfl
theorem Laws.LengthAndSpelling.wai : Laws.LengthAndSpelling.Statement .wai := lengthAndSpelling_of rfl rfl
theorem Laws.LengthAndSpelling.test : Laws.LengthAndSpelling.Statement .test := lengthAndSpelling_of rfl rfl
theorem Laws.LengthAndSpelling.tst (m : MemNoDir) : Laws.LengthAndSpelling.Statement (.tst m) := by
  cases m <;> exact lengthAndSpelling_of rfl rfl
theorem Laws.LengthAndSpelling.tsta : Laws.LengthAndSpelling.Statement .tsta := lengthAndSpelling_of rfl rfl
theorem Laws.LengthAndSpelling.tstb : Laws.LengthAndSpelling.Statement .tstb := lengthAndSpelling_of rfl rfl
theorem Laws.LengthAndSpelling.tsx : Laws.LengthAndSpelling.Statement .tsx := lengthAndSpelling_of rfl rfl
theorem Laws.LengthAndSpelling.tsy : Laws.LengthAndSpelling.Statement .tsy := lengthAndSpelling_of rfl rfl
theorem Laws.LengthAndSpelling.txs : Laws.LengthAndSpelling.Statement .txs := lengthAndSpelling_of rfl rfl

end Sys2Proof
end

