-- ==== Sys2Proof/Laws/Shift.lean ====
section
/-! SUPPORT. The shifts and rotates bit by bit, and their flags (43_shift_rotate.md R369). -/

namespace Sys2Proof.Machine

open Sys2Proof.Vocabulary

/-- One place left, a 0 entering. -/
theorem shiftLeft_bits (m : Byte) (i : Nat) (hi : i < 8) :
    bit (m <<< 1) i = if i = 0 then false else bit m (i - 1) := by
  simp only [bit, BitVec.getLsbD_shiftLeft]
  by_cases h : i = 0 <;> simp [h, hi]

/-- One place left through carry. -/
theorem rotateLeft_bits (m : Byte) (c : Bool) (i : Nat) (hi : i < 8) :
    bit (m <<< 1 ||| (if c then 1 else 0)) i = if i = 0 then c else bit m (i - 1) := by
  revert i m
  cases c <;> decide

/-- One place right, a 0 entering. -/
theorem shiftRight_bits (m : Byte) (i : Nat) (hi : i < 8) :
    bit (m >>> 1) i = if i = 7 then false else bit m (i + 1) := by
  revert i m
  decide

/-- One place right, the top bit kept. -/
theorem shiftRightArith_bits (m : Byte) (i : Nat) (hi : i < 8) :
    bit (m >>> 1 ||| (m &&& 0x80)) i = if i = 7 then bit m 7 else bit m (i + 1) := by
  revert i m
  decide

/-- One place right through carry. -/
theorem rotateRight_bits (m : Byte) (c : Bool) (i : Nat) (hi : i < 8) :
    bit (m >>> 1 ||| (if c then 0x80 else 0)) i = if i = 7 then c else bit m (i + 1) := by
  revert i m
  cases c <;> decide

/-- One place left in a word, a 0 entering. -/
theorem shiftLeft16_bits (m : Word) (i : Nat) (hi : i < 16) :
    (m <<< 1).getLsbD i = if i = 0 then false else m.getLsbD (i - 1) := by
  simp only [BitVec.getLsbD_shiftLeft]
  by_cases h : i = 0 <;> simp [h, hi]

/-- One place right in a word, a 0 entering. -/
theorem shiftRight16_bits (m : Word) (i : Nat) (_hi : i < 16) :
    (m >>> 1).getLsbD i = if i = 15 then false else m.getLsbD (i + 1) := by
  simp only [BitVec.getLsbD_ushiftRight]
  by_cases h : i = 15 <;> simp [h, Nat.add_comm]

/-- A left shift's result with its flags. -/
theorem MovedLeft8.of_ccr {m r ccr : Byte} {new : Bool} {t : State}
    (hr : ∀ i, i < 8 → bit r i = if i = 0 then new else bit m (i - 1))
    (h : t.ccr = shiftFlags8 ccr r (bit m 7)) : MovedLeft8 m new r t := by
  refine ⟨hr, ⟨?_, ?_⟩, ?_, ?_⟩ <;> rw [h] <;> simp

/-- A right shift's result with its flags. -/
theorem MovedRight8.of_ccr {m r ccr : Byte} {new : Bool} {t : State}
    (hr : ∀ i, i < 8 → bit r i = if i = 7 then new else bit m (i + 1))
    (h : t.ccr = shiftFlags8 ccr r (bit m 0)) : MovedRight8 m new r t := by
  refine ⟨hr, ⟨?_, ?_⟩, ?_, ?_⟩ <;> rw [h] <;> simp

/-- A left shift of a word with its flags. -/
theorem MovedLeft16.of_ccr {m r : Word} {ccr : Byte} {t : State}
    (hr : ∀ i, i < 16 → r.getLsbD i = if i = 0 then false else m.getLsbD (i - 1))
    (h : t.ccr = shiftFlags16 ccr r (m.getLsbD 15)) : MovedLeft16 m r t := by
  refine ⟨hr, ⟨?_, ?_⟩, ?_, ?_⟩ <;> rw [h] <;> simp

/-- A right shift of a word with its flags. -/
theorem MovedRight16.of_ccr {m r : Word} {ccr : Byte} {t : State}
    (hr : ∀ i, i < 16 → r.getLsbD i = if i = 15 then false else m.getLsbD (i + 1))
    (h : t.ccr = shiftFlags16 ccr r (m.getLsbD 0)) : MovedRight16 m r t := by
  refine ⟨hr, ⟨?_, ?_⟩, ?_, ?_⟩ <;> rw [h] <;> simp

end Sys2Proof.Machine
end

