-- ==== Sys2Proof/Laws/Step.lean ====
section
/-! SUPPORT. What a step can do, said once (00_scope.md R20). -/

namespace Sys2Proof.Machine

open Sys2Proof.Vocabulary

/-- Reading the environment's input writes only the requests. -/
theorem sample_eq (s : State) :
    sample s = ((s.setResetReq (sample s).resetReq).setPending (sample s).pending).setInputs (sample s).inputs := by
  unfold sample
  split <;> rfl

@[simp] theorem sample_params (s : State) : (sample s).params = s.params := by rw [sample_eq]; simp

/-- A refused map refuses every step (20_memory.md R85). -/
theorem step_of_mapRefused {s : State} (h : mapRefused s.params = true) : step s = .refused .ioMapRefused := by
  unfold step cpuStep
  rw [h, if_pos rfl]

/-- Under any other map a step is R20's order on the sampled state. -/
theorem step_of_map {s : State} (h : mapRefused s.params = false) : step s = sampledStep exec (sample s) := by
  unfold step cpuStep
  rw [h, if_neg (by decide)]

/-- Every next state of a step: a reset, a step in the stopped or the waiting state, an interrupt entry, an
instruction executed, or an illegal-opcode trap; and the map is not refused. -/
theorem step_cases {s t u : State} (h : step s = .next t) (hu : sample s = u) :
    mapRefused s.params = false ∧ ((u.resetReq = true ∧ t = resetSequence u) ∨
    (u.resetReq = false ∧ u.runState = .stopped ∧ t = stoppedStep u) ∨
    (u.resetReq = false ∧ u.runState = .waiting ∧ t = waitingStep u) ∨
    (u.resetReq = false ∧ u.runState = .running ∧ u.inhibit = false ∧
      ∃ q, highest (unmasked u) = some q ∧ t = enterInterrupt (.source q) u.pc u) ∨
    (u.resetReq = false ∧ u.runState = .running ∧
      ∃ i v, fetchInstr u = .instr i v ∧ exec i (v.setInhibit false) = .next t) ∨
    (u.resetReq = false ∧ u.runState = .running ∧
      ∃ v, fetchInstr u = .illegal v ∧ t = enterInterrupt .illegalOpcode u.pc (v.setInhibit false))) := by
  unfold step cpuStep at h
  cases hm : mapRefused s.params with
  | true => rw [hm, if_pos rfl] at h; cases h
  | false =>
  rw [hm, if_neg (by decide), hu] at h
  refine ⟨rfl, ?_⟩
  unfold sampledStep at h
  cases hr : u.resetReq with
  | true =>
    rw [hr, if_pos rfl] at h
    injection h with h
    exact .inl ⟨rfl, h.symm⟩
  | false =>
    rw [hr, if_neg (by decide)] at h
    cases hs : u.runState with
    | stopped =>
      rw [hs] at h
      injection h with h
      exact .inr (.inl ⟨rfl, rfl, h.symm⟩)
    | waiting =>
      rw [hs] at h
      injection h with h
      exact .inr (.inr (.inl ⟨rfl, rfl, h.symm⟩))
    | running =>
      rw [hs] at h
      simp only at h
      cases hn : interruptNow u with
      | some q =>
        rw [hn] at h
        injection h with h
        unfold interruptNow at hn
        cases hi : u.inhibit with
        | true => rw [hi, if_pos rfl] at hn; cases hn
        | false =>
          rw [hi, if_neg (by decide)] at hn
          exact .inr (.inr (.inr (.inl ⟨rfl, rfl, rfl, q, hn, h.symm⟩)))
      | none =>
        rw [hn] at h
        simp only [instructionStep] at h
        cases hf : fetchInstr u with
        | instr i v =>
          rw [hf] at h
          exact .inr (.inr (.inr (.inr (.inl ⟨rfl, rfl, i, v, rfl, h⟩))))
        | illegal v =>
          rw [hf] at h
          simp only [raiseIllegal] at h
          cases hp : (v.setInhibit false).params.illegalPolicy with
          | fault => rw [hp] at h; cases h
          | trap =>
            rw [hp] at h
            injection h with h
            exact .inr (.inr (.inr (.inr (.inr ⟨rfl, rfl, v, rfl, h.symm⟩))))

end Sys2Proof.Machine
end

