-- ==== Sys2Proof/Machine/Assembly.lean ====
section
/-! DEFINITION. The assembler's spelling of an instruction (30_encoding.md R150 to R152) and its two
computations: the choice of direct or extended, and the displacement of a label. No step depends on it. -/

namespace Sys2Proof.Machine

/-- The mnemonic, as spec/opcode_table.json has it (30_encoding.md R152). -/
def mnemonic : Instr → String
  | .ldaa _ => "LDAA"
  | .ldab _ => "LDAB"
  | .ldd _ => "LDD"
  | .lds _ => "LDS"
  | .ldx _ => "LDX"
  | .ldy _ => "LDY"
  | .psha => "PSHA"
  | .pshb => "PSHB"
  | .pshx => "PSHX"
  | .pshy => "PSHY"
  | .pula => "PULA"
  | .pulb => "PULB"
  | .pulx => "PULX"
  | .puly => "PULY"
  | .staa _ => "STAA"
  | .stab _ => "STAB"
  | .std _ => "STD"
  | .sts _ => "STS"
  | .stx _ => "STX"
  | .sty _ => "STY"
  | .tab => "TAB"
  | .tap => "TAP"
  | .tba => "TBA"
  | .tpa => "TPA"
  | .tys => "TYS"
  | .xgdx => "XGDX"
  | .xgdy => "XGDY"
  | .aba => "ABA"
  | .abx => "ABX"
  | .aby => "ABY"
  | .adca _ => "ADCA"
  | .adcb _ => "ADCB"
  | .adda _ => "ADDA"
  | .addb _ => "ADDB"
  | .addd _ => "ADDD"
  | .cba => "CBA"
  | .clr _ => "CLR"
  | .clra => "CLRA"
  | .clrb => "CLRB"
  | .cmpa _ => "CMPA"
  | .cmpb _ => "CMPB"
  | .cpd _ => "CPD"
  | .cpx _ => "CPX"
  | .cpy _ => "CPY"
  | .daa => "DAA"
  | .dec _ => "DEC"
  | .deca => "DECA"
  | .decb => "DECB"
  | .des => "DES"
  | .dex => "DEX"
  | .dey => "DEY"
  | .fdiv => "FDIV"
  | .idiv => "IDIV"
  | .inc _ => "INC"
  | .inca => "INCA"
  | .incb => "INCB"
  | .ins => "INS"
  | .inx => "INX"
  | .iny => "INY"
  | .mul => "MUL"
  | .neg _ => "NEG"
  | .nega => "NEGA"
  | .negb => "NEGB"
  | .sba => "SBA"
  | .sbca _ => "SBCA"
  | .sbcb _ => "SBCB"
  | .suba _ => "SUBA"
  | .subb _ => "SUBB"
  | .subd _ => "SUBD"
  | .anda _ => "ANDA"
  | .andb _ => "ANDB"
  | .bclr _ _ => "BCLR"
  | .bita _ => "BITA"
  | .bitb _ => "BITB"
  | .bset _ _ => "BSET"
  | .clc => "CLC"
  | .cli => "CLI"
  | .clv => "CLV"
  | .com _ => "COM"
  | .coma => "COMA"
  | .comb => "COMB"
  | .eora _ => "EORA"
  | .eorb _ => "EORB"
  | .oraa _ => "ORAA"
  | .orab _ => "ORAB"
  | .sec => "SEC"
  | .sei => "SEI"
  | .sev => "SEV"
  | .asl _ => "ASL"
  | .asla => "ASLA"
  | .aslb => "ASLB"
  | .asld => "ASLD"
  | .asr _ => "ASR"
  | .asra => "ASRA"
  | .asrb => "ASRB"
  | .lsl _ => "LSL"
  | .lsla => "LSLA"
  | .lslb => "LSLB"
  | .lsld => "LSLD"
  | .lsr _ => "LSR"
  | .lsra => "LSRA"
  | .lsrb => "LSRB"
  | .lsrd => "LSRD"
  | .rol _ => "ROL"
  | .rola => "ROLA"
  | .rolb => "ROLB"
  | .ror _ => "ROR"
  | .rora => "RORA"
  | .rorb => "RORB"
  | .bcc _ => "BCC"
  | .bcs _ => "BCS"
  | .beq _ => "BEQ"
  | .bge _ => "BGE"
  | .bgt _ => "BGT"
  | .bhi _ => "BHI"
  | .bhs _ => "BHS"
  | .ble _ => "BLE"
  | .blo _ => "BLO"
  | .bls _ => "BLS"
  | .blt _ => "BLT"
  | .bmi _ => "BMI"
  | .bne _ => "BNE"
  | .bpl _ => "BPL"
  | .bra _ => "BRA"
  | .brn _ => "BRN"
  | .brclr _ _ _ => "BRCLR"
  | .brset _ _ _ => "BRSET"
  | .bsr _ => "BSR"
  | .bvc _ => "BVC"
  | .bvs _ => "BVS"
  | .jmp _ => "JMP"
  | .jsr _ => "JSR"
  | .nop => "NOP"
  | .rts => "RTS"
  | .rti => "RTI"
  | .stop => "STOP"
  | .swi => "SWI"
  | .wai => "WAI"
  | .test => "TEST"
  | .tst _ => "TST"
  | .tsta => "TSTA"
  | .tstb => "TSTB"
  | .tsx => "TSX"
  | .tsy => "TSY"
  | .txs => "TXS"

/-- A hexadecimal digit. -/
def hexDigit (n : Nat) : String :=
  ["0", "1", "2", "3", "4", "5", "6", "7", "8", "9", "A", "B", "C", "D", "E", "F"].getD (n % 16) "0"

/-- `$hh` (00_scope.md R8). -/
def hex8 (v : Byte) : String := "$" ++ hexDigit (v.toNat / 16) ++ hexDigit v.toNat

/-- `$hhhh` (00_scope.md R8). -/
def hex16 (v : Word) : String :=
  "$" ++ hexDigit (v.toNat / 4096) ++ hexDigit (v.toNat / 256) ++ hexDigit (v.toNat / 16) ++ hexDigit v.toNat

/-- A memory operand: an address, or `offset,X`, `offset,Y` (30_encoding.md R151). -/
def memText : Mem → String
  | .dir dd => hex8 dd
  | .ext a => hex16 a
  | .indx ff => hex8 ff ++ ",X"
  | .indy ff => hex8 ff ++ ",Y"

/-- An 8-bit source: `#value` or a memory operand (30_encoding.md R151). -/
def src8Text : Src8 → String
  | .imm ii => "#" ++ hex8 ii
  | .mem m => memText m

/-- A 16-bit source (30_encoding.md R151). -/
def src16Text : Src16 → String
  | .imm v => "#" ++ hex16 v
  | .mem m => memText m

/-- The operand field, a label written as the address it stands for, from the address of the next
instruction (30_encoding.md R151). -/
def operandText (pcNext : Word) : Instr → String
  | .ldaa src => src8Text src
  | .ldab src => src8Text src
  | .ldd src => src16Text src
  | .lds src => src16Text src
  | .ldx src => src16Text src
  | .ldy src => src16Text src
  | .psha => ""
  | .pshb => ""
  | .pshx => ""
  | .pshy => ""
  | .pula => ""
  | .pulb => ""
  | .pulx => ""
  | .puly => ""
  | .staa m => memText m
  | .stab m => memText m
  | .std m => memText m
  | .sts m => memText m
  | .stx m => memText m
  | .sty m => memText m
  | .tab => ""
  | .tap => ""
  | .tba => ""
  | .tpa => ""
  | .tys => ""
  | .xgdx => ""
  | .xgdy => ""
  | .aba => ""
  | .abx => ""
  | .aby => ""
  | .adca src => src8Text src
  | .adcb src => src8Text src
  | .adda src => src8Text src
  | .addb src => src8Text src
  | .addd src => src16Text src
  | .cba => ""
  | .clr m => memText m.toMem
  | .clra => ""
  | .clrb => ""
  | .cmpa src => src8Text src
  | .cmpb src => src8Text src
  | .cpd src => src16Text src
  | .cpx src => src16Text src
  | .cpy src => src16Text src
  | .daa => ""
  | .dec m => memText m.toMem
  | .deca => ""
  | .decb => ""
  | .des => ""
  | .dex => ""
  | .dey => ""
  | .fdiv => ""
  | .idiv => ""
  | .inc m => memText m.toMem
  | .inca => ""
  | .incb => ""
  | .ins => ""
  | .inx => ""
  | .iny => ""
  | .mul => ""
  | .neg m => memText m.toMem
  | .nega => ""
  | .negb => ""
  | .sba => ""
  | .sbca src => src8Text src
  | .sbcb src => src8Text src
  | .suba src => src8Text src
  | .subb src => src8Text src
  | .subd src => src16Text src
  | .anda src => src8Text src
  | .andb src => src8Text src
  | .bclr m mm => memText m.toMem ++ ",#" ++ hex8 mm
  | .bita src => src8Text src
  | .bitb src => src8Text src
  | .bset m mm => memText m.toMem ++ ",#" ++ hex8 mm
  | .clc => ""
  | .cli => ""
  | .clv => ""
  | .com m => memText m.toMem
  | .coma => ""
  | .comb => ""
  | .eora src => src8Text src
  | .eorb src => src8Text src
  | .oraa src => src8Text src
  | .orab src => src8Text src
  | .sec => ""
  | .sei => ""
  | .sev => ""
  | .asl m => memText m.toMem
  | .asla => ""
  | .aslb => ""
  | .asld => ""
  | .asr m => memText m.toMem
  | .asra => ""
  | .asrb => ""
  | .lsl m => memText m.toMem
  | .lsla => ""
  | .lslb => ""
  | .lsld => ""
  | .lsr m => memText m.toMem
  | .lsra => ""
  | .lsrb => ""
  | .lsrd => ""
  | .rol m => memText m.toMem
  | .rola => ""
  | .rolb => ""
  | .ror m => memText m.toMem
  | .rora => ""
  | .rorb => ""
  | .bcc rr => hex16 (pcNext + sext16 rr)
  | .bcs rr => hex16 (pcNext + sext16 rr)
  | .beq rr => hex16 (pcNext + sext16 rr)
  | .bge rr => hex16 (pcNext + sext16 rr)
  | .bgt rr => hex16 (pcNext + sext16 rr)
  | .bhi rr => hex16 (pcNext + sext16 rr)
  | .bhs rr => hex16 (pcNext + sext16 rr)
  | .ble rr => hex16 (pcNext + sext16 rr)
  | .blo rr => hex16 (pcNext + sext16 rr)
  | .bls rr => hex16 (pcNext + sext16 rr)
  | .blt rr => hex16 (pcNext + sext16 rr)
  | .bmi rr => hex16 (pcNext + sext16 rr)
  | .bne rr => hex16 (pcNext + sext16 rr)
  | .bpl rr => hex16 (pcNext + sext16 rr)
  | .bra rr => hex16 (pcNext + sext16 rr)
  | .brn rr => hex16 (pcNext + sext16 rr)
  | .brclr m mm rr => memText m.toMem ++ ",#" ++ hex8 mm ++ " " ++ hex16 (pcNext + sext16 rr)
  | .brset m mm rr => memText m.toMem ++ ",#" ++ hex8 mm ++ " " ++ hex16 (pcNext + sext16 rr)
  | .bsr rr => hex16 (pcNext + sext16 rr)
  | .bvc rr => hex16 (pcNext + sext16 rr)
  | .bvs rr => hex16 (pcNext + sext16 rr)
  | .jmp m => memText m.toMem
  | .jsr m => memText m
  | .nop => ""
  | .rts => ""
  | .rti => ""
  | .stop => ""
  | .swi => ""
  | .wai => ""
  | .test => ""
  | .tst m => memText m.toMem
  | .tsta => ""
  | .tstb => ""
  | .tsx => ""
  | .tsy => ""
  | .txs => ""

/-- The assembler line of an instruction, without a label (30_encoding.md R150). -/
def asmLine (pcNext : Word) (i : Instr) : String :=
  if operandText pcNext i = "" then " " ++ mnemonic i else " " ++ mnemonic i ++ " " ++ operandText pcNext i

/-- The form an assembler chooses for an address, where the instruction has a direct form: direct below
$0100, else extended (30_encoding.md R151). -/
def chooseForm (a : Word) : Mem := if a < 0x0100 then .dir (lo a) else .ext a

/-- The displacement of a label: rr = label - PCnext, rejected outside -128 to 127 (30_encoding.md R151;
44_branch_jump.md R411). -/
def displacement (pcNext label : Word) : Option Byte :=
  if sext16 (lo (label - pcNext)) = label - pcNext then some (lo (label - pcNext)) else none

end Sys2Proof.Machine
end

