-- ==== Sys2Proof/Machine/Timing.lean ====
section
/-! DEFINITION. The cycle counts the source gives, transcribed (70_reset_and_hazards.md R570). No step depends
on them (R571; log 25). -/

namespace Sys2Proof.Machine

/-- The column of a memory form: direct, extended, indexed X, indexed Y; 0 for a form the instruction
lacks. -/
def memCycles (dir ext indx indy : Nat) : Mem → Nat
  | .dir _ => dir
  | .ext _ => ext
  | .indx _ => indx
  | .indy _ => indy

def src8Cycles (imm dir ext indx indy : Nat) : Src8 → Nat
  | .imm _ => imm
  | .mem m => memCycles dir ext indx indy m

def src16Cycles (imm dir ext indx indy : Nat) : Src16 → Nat
  | .imm _ => imm
  | .mem m => memCycles dir ext indx indy m

/-- The "Cycles" figure of an instruction and form; none where the source has no entry
(70_reset_and_hazards.md R570). WAI's 0 is not a duration (45_system.md R465). -/
def cycles : Instr → Option Nat
  | .ldaa src => some (src8Cycles 2 3 4 4 5 src)
  | .ldab src => some (src8Cycles 2 3 4 4 5 src)
  | .ldd src => some (src16Cycles 3 4 5 5 6 src)
  | .lds src => some (src16Cycles 3 4 5 5 6 src)
  | .ldx src => some (src16Cycles 3 4 5 5 6 src)
  | .ldy src => some (src16Cycles 4 5 6 6 6 src)
  | .psha => some 3
  | .pshb => some 3
  | .pshx => some 4
  | .pshy => some 5
  | .pula => some 4
  | .pulb => some 4
  | .pulx => some 5
  | .puly => some 6
  | .staa m => some (memCycles 3 4 4 5 m)
  | .stab m => some (memCycles 3 4 4 5 m)
  | .std m => some (memCycles 4 5 5 6 m)
  | .sts m => some (memCycles 4 5 5 6 m)
  | .stx m => some (memCycles 4 5 5 6 m)
  | .sty m => some (memCycles 5 6 6 6 m)
  | .tab => some 2
  | .tap => some 2
  | .tba => some 2
  | .tpa => some 2
  | .tys => some 4
  | .xgdx => some 3
  | .xgdy => some 4
  | .aba => some 2
  | .abx => some 3
  | .aby => some 4
  | .adca src => some (src8Cycles 2 3 4 4 5 src)
  | .adcb src => some (src8Cycles 2 3 4 4 5 src)
  | .adda src => some (src8Cycles 2 3 4 4 5 src)
  | .addb src => some (src8Cycles 2 3 4 4 5 src)
  | .addd src => some (src16Cycles 4 5 6 6 7 src)
  | .cba => some 2
  | .clr m => some (memCycles 0 6 6 7 m.toMem)
  | .clra => some 2
  | .clrb => some 2
  | .cmpa src => some (src8Cycles 2 3 4 4 5 src)
  | .cmpb src => some (src8Cycles 2 3 4 4 5 src)
  | .cpd src => some (src16Cycles 5 6 7 7 7 src)
  | .cpx src => some (src16Cycles 4 5 6 6 7 src)
  | .cpy src => some (src16Cycles 5 6 7 7 7 src)
  | .daa => some 2
  | .dec m => some (memCycles 0 6 6 7 m.toMem)
  | .deca => some 2
  | .decb => some 2
  | .des => some 3
  | .dex => some 3
  | .dey => some 4
  | .fdiv => some 41
  | .idiv => some 41
  | .inc m => some (memCycles 0 6 6 7 m.toMem)
  | .inca => some 2
  | .incb => some 2
  | .ins => some 3
  | .inx => some 3
  | .iny => some 4
  | .mul => some 10
  | .neg m => some (memCycles 0 6 6 7 m.toMem)
  | .nega => some 2
  | .negb => some 2
  | .sba => some 2
  | .sbca src => some (src8Cycles 2 3 4 4 5 src)
  | .sbcb src => some (src8Cycles 2 3 4 4 5 src)
  | .suba src => some (src8Cycles 2 3 4 4 5 src)
  | .subb src => some (src8Cycles 2 3 4 4 5 src)
  | .subd src => some (src16Cycles 4 5 6 6 7 src)
  | .anda src => some (src8Cycles 2 3 4 4 5 src)
  | .andb src => some (src8Cycles 2 3 4 4 5 src)
  | .bclr m _ => some (memCycles 6 0 7 8 m.toMem)
  | .bita src => some (src8Cycles 2 3 4 4 5 src)
  | .bitb src => some (src8Cycles 2 3 4 4 5 src)
  | .bset m _ => some (memCycles 6 0 7 8 m.toMem)
  | .clc => some 2
  | .cli => some 2
  | .clv => some 2
  | .com m => some (memCycles 0 6 6 7 m.toMem)
  | .coma => some 2
  | .comb => some 2
  | .eora src => some (src8Cycles 2 3 4 4 5 src)
  | .eorb src => some (src8Cycles 2 3 4 4 5 src)
  | .oraa src => some (src8Cycles 2 3 4 4 5 src)
  | .orab src => some (src8Cycles 2 3 4 4 5 src)
  | .sec => some 2
  | .sei => some 2
  | .sev => some 2
  | .asl m => some (memCycles 0 6 6 7 m.toMem)
  | .asla => some 2
  | .aslb => some 2
  | .asld => some 3
  | .asr m => some (memCycles 0 6 6 7 m.toMem)
  | .asra => some 2
  | .asrb => some 2
  | .lsl m => some (memCycles 0 6 6 7 m.toMem)
  | .lsla => some 2
  | .lslb => some 2
  | .lsld => some 3
  | .lsr m => some (memCycles 0 6 6 7 m.toMem)
  | .lsra => some 2
  | .lsrb => some 2
  | .lsrd => some 3
  | .rol m => some (memCycles 0 6 6 7 m.toMem)
  | .rola => some 2
  | .rolb => some 2
  | .ror m => some (memCycles 0 6 6 7 m.toMem)
  | .rora => some 2
  | .rorb => some 2
  | .bcc _ => some 3
  | .bcs _ => some 3
  | .beq _ => some 3
  | .bge _ => some 3
  | .bgt _ => some 3
  | .bhi _ => some 3
  | .bhs _ => some 3
  | .ble _ => some 3
  | .blo _ => some 3
  | .bls _ => some 3
  | .blt _ => some 3
  | .bmi _ => some 3
  | .bne _ => some 3
  | .bpl _ => some 3
  | .bra _ => some 3
  | .brn _ => some 3
  | .brclr m _ _ => some (memCycles 6 0 7 8 m.toMem)
  | .brset m _ _ => some (memCycles 6 0 7 8 m.toMem)
  | .bsr _ => some 6
  | .bvc _ => some 3
  | .bvs _ => some 3
  | .jmp m => some (memCycles 0 3 3 4 m.toMem)
  | .jsr m => some (memCycles 5 6 6 7 m)
  | .nop => some 2
  | .rts => some 5
  | .rti => some 12
  | .stop => some 2
  | .swi => some 14
  | .wai => some 0
  | .test => none
  | .tst _ => none
  | .tsta => none
  | .tstb => none
  | .tsx => none
  | .tsy => none
  | .txs => none

end Sys2Proof.Machine
end

