-- ==== Sys2Proof/Tests/Slice0.lean ====
section
/-! SUPPORT. Tests: the well-formedness smoke, decoding of words written out from the Encoding lines of the spec,
one step of each instruction with the results of the spec's own examples and of 95_test_vectors.md Part 2, and for
every statement with hypotheses a state that meets them. -/

namespace Sys2Proof.Tests

open Sys2Proof.Machine Sys2Proof.Vocabulary Sys2Proof.Safety

/-! ## Well-formedness: every second spelling is refused (30_encoding.md R152) -/

theorem test_bhs_is_a_second_spelling : WellFormed (.bhs 0x10) = false := by decide
theorem test_blo_is_a_second_spelling : WellFormed (.blo 0x10) = false := by decide
theorem test_lsl_is_a_second_spelling : WellFormed (.lsl (.indx 0x10)) = false := by decide
theorem test_lsla_is_a_second_spelling : WellFormed .lsla = false := by decide
theorem test_lslb_is_a_second_spelling : WellFormed .lslb = false := by decide
theorem test_lsld_is_a_second_spelling : WellFormed .lsld = false := by decide
theorem test_asl_is_well_formed : WellFormed (.asl (.indx 0x10)) = true := by decide

/-! ## Decoding: for every constructor, bytes written out from its Encoding line -/

/-- Every sequence of bytes decodes to its instruction, a byte after it left over. -/
def allDecode (l : List (List Byte × Instr)) : Bool :=
  l.all fun p => decide (decode (p.1 ++ [0xFF]) = .ok p.2 [0xFF])

/-- Every second spelling is encoded in these bytes. -/
def allEncode (l : List (List Byte × Instr)) : Bool := l.all fun p => decide (encode p.2 = p.1)

theorem test_decode_loads_and_stores : allDecode
    [([0x86, 0x12], .ldaa (.imm 0x12)),
     ([0xD6, 0x12], .ldab (.mem (.dir 0x12))),
     ([0xEC, 0x12], .ldd (.mem (.indx 0x12))),
     ([0xBE, 0x12, 0x34], .lds (.mem (.ext 0x1234))),
     ([0xCD, 0xEE, 0x12], .ldx (.mem (.indy 0x12))),
     ([0x18, 0xCE, 0x12, 0x34], .ldy (.imm 0x1234)),
     ([0x36], .psha),
     ([0x37], .pshb),
     ([0x3C], .pshx),
     ([0x18, 0x3C], .pshy),
     ([0x32], .pula),
     ([0x33], .pulb),
     ([0x38], .pulx),
     ([0x18, 0x38], .puly),
     ([0xB7, 0x12, 0x34], .staa (.ext 0x1234)),
     ([0x18, 0xE7, 0x12], .stab (.indy 0x12)),
     ([0xDD, 0x12], .std (.dir 0x12)),
     ([0xAF, 0x12], .sts (.indx 0x12)),
     ([0xFF, 0x12, 0x34], .stx (.ext 0x1234)),
     ([0x1A, 0xEF, 0x12], .sty (.indx 0x12)),
     ([0x16], .tab),
     ([0x06], .tap),
     ([0x17], .tba),
     ([0x07], .tpa),
     ([0x18, 0x35], .tys),
     ([0x8F], .xgdx),
     ([0x18, 0x8F], .xgdy)] = true := by decide

theorem test_decode_arithmetic : allDecode
    [([0x1B], .aba),
     ([0x3A], .abx),
     ([0x18, 0x3A], .aby),
     ([0x89, 0x12], .adca (.imm 0x12)),
     ([0xD9, 0x12], .adcb (.mem (.dir 0x12))),
     ([0xAB, 0x12], .adda (.mem (.indx 0x12))),
     ([0xFB, 0x12, 0x34], .addb (.mem (.ext 0x1234))),
     ([0x18, 0xE3, 0x12], .addd (.mem (.indy 0x12))),
     ([0x11], .cba),
     ([0x6F, 0x12], .clr (.indx 0x12)),
     ([0x4F], .clra),
     ([0x5F], .clrb),
     ([0x18, 0xA1, 0x12], .cmpa (.mem (.indy 0x12))),
     ([0xC1, 0x12], .cmpb (.imm 0x12)),
     ([0x1A, 0x93, 0x12], .cpd (.mem (.dir 0x12))),
     ([0xAC, 0x12], .cpx (.mem (.indx 0x12))),
     ([0x18, 0xBC, 0x12, 0x34], .cpy (.mem (.ext 0x1234))),
     ([0x19], .daa),
     ([0x6A, 0x12], .dec (.indx 0x12)),
     ([0x4A], .deca),
     ([0x5A], .decb),
     ([0x34], .des),
     ([0x09], .dex),
     ([0x18, 0x09], .dey),
     ([0x03], .fdiv),
     ([0x02], .idiv),
     ([0x18, 0x6C, 0x12], .inc (.indy 0x12)),
     ([0x4C], .inca),
     ([0x5C], .incb),
     ([0x31], .ins),
     ([0x08], .inx),
     ([0x18, 0x08], .iny),
     ([0x3D], .mul),
     ([0x60, 0x12], .neg (.indx 0x12)),
     ([0x40], .nega),
     ([0x50], .negb),
     ([0x10], .sba),
     ([0x18, 0xA2, 0x12], .sbca (.mem (.indy 0x12))),
     ([0xC2, 0x12], .sbcb (.imm 0x12)),
     ([0x90, 0x12], .suba (.mem (.dir 0x12))),
     ([0xE0, 0x12], .subb (.mem (.indx 0x12))),
     ([0xB3, 0x12, 0x34], .subd (.mem (.ext 0x1234)))] = true := by decide

theorem test_decode_logic : allDecode
    [([0x18, 0xA4, 0x12], .anda (.mem (.indy 0x12))),
     ([0xC4, 0x12], .andb (.imm 0x12)),
     ([0x18, 0x1D, 0x12, 0x34], .bclr (.indy 0x12) 0x34),
     ([0xA5, 0x12], .bita (.mem (.indx 0x12))),
     ([0xF5, 0x12, 0x34], .bitb (.mem (.ext 0x1234))),
     ([0x18, 0x1C, 0x12, 0x34], .bset (.indy 0x12) 0x34),
     ([0x0C], .clc),
     ([0x0E], .cli),
     ([0x0A], .clv),
     ([0x63, 0x12], .com (.indx 0x12)),
     ([0x43], .coma),
     ([0x53], .comb),
     ([0x98, 0x12], .eora (.mem (.dir 0x12))),
     ([0xE8, 0x12], .eorb (.mem (.indx 0x12))),
     ([0xBA, 0x12, 0x34], .oraa (.mem (.ext 0x1234))),
     ([0x18, 0xEA, 0x12], .orab (.mem (.indy 0x12))),
     ([0x0D], .sec),
     ([0x0F], .sei),
     ([0x0B], .sev)] = true := by decide

theorem test_decode_shifts : allDecode
    [([0x78, 0x12, 0x34], .asl (.ext 0x1234)),
     ([0x48], .asla),
     ([0x58], .aslb),
     ([0x05], .asld),
     ([0x18, 0x67, 0x12], .asr (.indy 0x12)),
     ([0x47], .asra),
     ([0x57], .asrb),
     ([0x64, 0x12], .lsr (.indx 0x12)),
     ([0x44], .lsra),
     ([0x54], .lsrb),
     ([0x04], .lsrd),
     ([0x79, 0x12, 0x34], .rol (.ext 0x1234)),
     ([0x49], .rola),
     ([0x59], .rolb),
     ([0x76, 0x12, 0x34], .ror (.ext 0x1234)),
     ([0x46], .rora),
     ([0x56], .rorb)] = true := by decide

theorem test_decode_branches : allDecode
    [([0x24, 0x12], .bcc 0x12),
     ([0x25, 0x12], .bcs 0x12),
     ([0x27, 0x12], .beq 0x12),
     ([0x2C, 0x12], .bge 0x12),
     ([0x2E, 0x12], .bgt 0x12),
     ([0x22, 0x12], .bhi 0x12),
     ([0x2F, 0x12], .ble 0x12),
     ([0x23, 0x12], .bls 0x12),
     ([0x2D, 0x12], .blt 0x12),
     ([0x2B, 0x12], .bmi 0x12),
     ([0x26, 0x12], .bne 0x12),
     ([0x2A, 0x12], .bpl 0x12),
     ([0x20, 0x12], .bra 0x12),
     ([0x21, 0x12], .brn 0x12),
     ([0x18, 0x1F, 0x12, 0x34, 0x56], .brclr (.indy 0x12) 0x34 0x56),
     ([0x12, 0x12, 0x34, 0x56], .brset (.dir 0x12) 0x34 0x56),
     ([0x8D, 0x12], .bsr 0x12),
     ([0x28, 0x12], .bvc 0x12),
     ([0x29, 0x12], .bvs 0x12),
     ([0x7E, 0x12, 0x34], .jmp (.ext 0x1234)),
     ([0x18, 0xAD, 0x12], .jsr (.indy 0x12)),
     ([0x01], .nop),
     ([0x39], .rts)] = true := by decide

theorem test_decode_system : allDecode
    [([0x3B], .rti),
     ([0xCF], .stop),
     ([0x3F], .swi),
     ([0x3E], .wai)] = true := by decide

theorem test_decode_omitted : allDecode
    [([0x00], .test),
     ([0x7D, 0x12, 0x34], .tst (.ext 0x1234)),
     ([0x4D], .tsta),
     ([0x5D], .tstb),
     ([0x30], .tsx),
     ([0x18, 0x30], .tsy),
     ([0x35], .txs)] = true := by decide

theorem test_encode_second_spellings : allEncode
    [([0x18, 0x68, 0x12], .lsl (.indy 0x12)),
     ([0x48], .lsla),
     ([0x58], .lslb),
     ([0x05], .lsld),
     ([0x24, 0x12], .bhs 0x12),
     ([0x25, 0x12], .blo 0x12)] = true := by decide

/-! ## One step: the examples of the rules and 95_test_vectors.md Part 2 -/

/-- The start state of the test vectors (95_test_vectors.md): PC = $C000, CCR = $D0. -/
def base : State := { State.reset with pc := 0xC000 }

/-- Bytes put into memory, one by one. -/
def put (cells : List (Word × Byte)) (s : State) : State :=
  cells.foldl (fun u c => u.setMem (u.mem.write c.1.toNat c.2)) s

/-- The step answers a next state that passes a check. -/
def stepsTo (s : State) (check : State → Bool) : Bool :=
  match step s with
  | .next t => check t
  | .fault _ | .refused _ => false

/-- Bytes at PC, cells elsewhere, one step. -/
def runs (s : State) (cells : List (Word × Byte)) (bytes : List Byte) (check : State → Bool) : Bool :=
  stepsTo (pokeBytes s.pc bytes (put cells s)) check

theorem test_ldaa_1 : runs base [] [0x86, 0xE6]
    (fun t => t.a == 0xE6 && t.ccr == 0xD8 && t.pc == 0xC002) = true := by decide
theorem test_ldab_1 : runs { base with x := 0x2000, ccr := 0xD2 } [(0x2000, 0x00)] [0xE6, 0x00]
    (fun t => t.b == 0x00 && t.ccr == 0xD4 && t.pc == 0xC002) = true := by decide
theorem test_ldd_1 : runs base [] [0xCC, 0xA8, 0xE6]
    (fun t => t.a == 0xA8 && t.b == 0xE6 && t.ccr == 0xD8 && t.pc == 0xC003) = true := by decide
theorem test_ldd_2 : runs base [(0xFFFF, 0x12), (0x0000, 0x34)] [0xFC, 0xFF, 0xFF]
    (fun t => t.d == 0x1234 && t.pc == 0xC003) = true := by decide
theorem test_lds_1 : runs base [] [0x8E, 0x00, 0xFF]
    (fun t => t.sp == 0x00FF && t.ccr == 0xD0 && t.pc == 0xC003) = true := by decide
theorem test_ldx_1 : runs base [] [0xCE, 0x10, 0xFF]
    (fun t => t.x == 0x10FF && t.pc == 0xC003) = true := by decide
theorem test_ldx_2 : runs { base with y := 0x2000 } [(0x2002, 0x12), (0x2003, 0x34)] [0xCD, 0xEE, 0x02]
    (fun t => t.x == 0x1234 && t.pc == 0xC003) = true := by decide
theorem test_ldy_1 : runs base [] [0x18, 0xCE, 0xFA, 0x46]
    (fun t => t.y == 0xFA46 && t.ccr == 0xD8 && t.pc == 0xC004) = true := by decide
theorem test_ldy_2 : runs { base with x := 0x2000 } [(0x2002, 0x80), (0x2003, 0x00)] [0x1A, 0xEE, 0x02]
    (fun t => t.y == 0x8000 && t.ccr == 0xD8 && t.pc == 0xC003) = true := by decide
theorem test_staa_1 : runs { base with a := 0x80 } [] [0x97, 0x40]
    (fun t => t.byteAt 0x0040 == 0x80 && t.ccr == 0xD8 && t.pc == 0xC002) = true := by decide
theorem test_stab_1 : runs { base with b := 0x00, x := 0x2000 } [] [0xE7, 0x00]
    (fun t => t.byteAt 0x2000 == 0x00 && t.ccr == 0xD4 && t.pc == 0xC002) = true := by decide
theorem test_std_1 : runs { base with a := 0xA8, b := 0xE6 } [] [0xDD, 0x40]
    (fun t => t.byteAt 0x0040 == 0xA8 && t.byteAt 0x0041 == 0xE6 && t.ccr == 0xD8 && t.pc == 0xC002) = true := by decide
theorem test_sts_1 : runs { base with sp := 0x00FF } [] [0x9F, 0x40]
    (fun t => t.byteAt 0x0040 == 0x00 && t.byteAt 0x0041 == 0xFF && t.ccr == 0xD0 && t.pc == 0xC002) = true := by decide
theorem test_stx_1 : runs { base with x := 0x0000 } [] [0xFF, 0x20, 0x00]
    (fun t => t.byteAt 0x2000 == 0x00 && t.byteAt 0x2001 == 0x00 && t.ccr == 0xD4 && t.pc == 0xC003) = true := by decide
theorem test_sty_1 : runs { base with y := 0x8001 } [] [0x18, 0xDF, 0x40]
    (fun t => t.byteAt 0x0040 == 0x80 && t.byteAt 0x0041 == 0x01 && t.ccr == 0xD8 && t.pc == 0xC003) = true := by decide
theorem test_psha_1 : runs { base with a := 0x5A, sp := 0x00FF } [] [0x36]
    (fun t => t.byteAt 0x00FF == 0x5A && t.sp == 0x00FE && t.pc == 0xC001) = true := by decide
theorem test_pshx_1 : runs { base with x := 0x1234, sp := 0x00FF } [] [0x3C]
    (fun t => t.byteAt 0x00FF == 0x34 && t.byteAt 0x00FE == 0x12 && t.sp == 0x00FD && t.pc == 0xC001) = true := by decide
theorem test_pshy_1 : runs { base with y := 0xABCD, sp := 0x0000 } [] [0x18, 0x3C]
    (fun t => t.byteAt 0x0000 == 0xCD && t.byteAt 0xFFFF == 0xAB && t.sp == 0xFFFE && t.pc == 0xC002) = true := by decide
theorem test_pula_1 : runs { base with sp := 0x00FD, ccr := 0xD4 } [(0x00FE, 0x77)] [0x32]
    (fun t => t.a == 0x77 && t.sp == 0x00FE && t.ccr == 0xD4 && t.pc == 0xC001) = true := by decide
theorem test_pulx_1 : runs { base with sp := 0x00FD } [(0x00FE, 0x12), (0x00FF, 0x34)] [0x38]
    (fun t => t.x == 0x1234 && t.sp == 0x00FF && t.pc == 0xC001) = true := by decide
theorem test_puly_1 : runs { base with sp := 0xFFFF } [(0x0000, 0xAB), (0x0001, 0xCD)] [0x18, 0x38]
    (fun t => t.y == 0xABCD && t.sp == 0x0001 && t.pc == 0xC002) = true := by decide
theorem test_tab_1 : runs { base with a := 0x80, b := 0x00, ccr := 0xD3 } [] [0x16]
    (fun t => t.b == 0x80 && t.ccr == 0xD9 && t.pc == 0xC001) = true := by decide
theorem test_tba_1 : runs { base with a := 0x80, b := 0x00, ccr := 0xD2 } [] [0x17]
    (fun t => t.a == 0x00 && t.ccr == 0xD4 && t.pc == 0xC001) = true := by decide
theorem test_tap_1 : runs { base with a := 0x00, ccr := 0xD0 } [] [0x06]
    (fun t => t.ccr == 0x00 && t.pc == 0xC001) = true := by decide
theorem test_tpa_1 : runs { base with ccr := 0xD5 } [] [0x07]
    (fun t => t.a == 0xD5 && t.pc == 0xC001) = true := by decide
theorem test_tys_1 : runs { base with y := 0x0100 } [] [0x18, 0x35]
    (fun t => t.sp == 0x00FF && t.pc == 0xC002) = true := by decide
theorem test_xgdx_1 : runs { base with a := 0x12, b := 0x34, x := 0xABCD } [] [0x8F]
    (fun t => t.d == 0xABCD && t.x == 0x1234 && t.pc == 0xC001) = true := by decide
theorem test_xgdy_1 : runs { base with a := 0x12, b := 0x34, y := 0xABCD } [] [0x18, 0x8F]
    (fun t => t.d == 0xABCD && t.y == 0x1234 && t.pc == 0xC002) = true := by decide
theorem test_aba_1 : runs { base with a := 0x3A, b := 0x5C } [] [0x1B]
    (fun t => t.a == 0x96 && t.ccr == 0xFA && t.pc == 0xC001) = true := by decide
theorem test_aba_2 : runs { base with a := 0x80, b := 0x80 } [] [0x1B]
    (fun t => t.a == 0x00 && t.ccr == 0xD7 && t.pc == 0xC001) = true := by decide
theorem test_abx_1 : runs { base with b := 0xFF, x := 0xFF80 } [] [0x3A]
    (fun t => t.x == 0x007F && t.pc == 0xC001) = true := by decide
theorem test_aby_1 : runs { base with b := 0x10, y := 0x1000 } [] [0x18, 0x3A]
    (fun t => t.y == 0x1010 && t.pc == 0xC002) = true := by decide
theorem test_adca_1 : runs { base with a := 0x7F, ccr := 0xD1 } [] [0x89, 0x00]
    (fun t => t.a == 0x80 && t.ccr == 0xFA && t.pc == 0xC002) = true := by decide
theorem test_adcb_1 : runs { base with b := 0xFF, ccr := 0xD1 } [] [0xC9, 0x41]
    (fun t => t.b == 0x41 && t.ccr == 0xF1 && t.pc == 0xC002) = true := by decide
theorem test_adda_1 : runs { base with a := 0x0F } [] [0x8B, 0x01]
    (fun t => t.a == 0x10 && t.ccr == 0xF0 && t.pc == 0xC002) = true := by decide
theorem test_addb_1 : runs { base with b := 0xE2 } [] [0xCB, 0x1E]
    (fun t => t.b == 0x00 && t.ccr == 0xF5 && t.pc == 0xC002) = true := by decide
theorem test_addd_1 : runs { base with a := 0x7F, b := 0xFF } [] [0xC3, 0x00, 0x01]
    (fun t => t.d == 0x8000 && t.ccr == 0xDA && t.pc == 0xC003) = true := by decide
theorem test_addd_2 : runs { base with a := 0xFF, b := 0xFF } [] [0xC3, 0x00, 0x01]
    (fun t => t.d == 0x0000 && t.ccr == 0xD5 && t.pc == 0xC003) = true := by decide
theorem test_cba_1 : runs { base with a := 0x05, b := 0x05 } [] [0x11]
    (fun t => t.ccr == 0xD4 && t.pc == 0xC001) = true := by decide
theorem test_cba_2 : runs { base with a := 0x05, b := 0x06 } [] [0x11]
    (fun t => t.ccr == 0xD9 && t.pc == 0xC001) = true := by decide
theorem test_cmpb_1 : runs { base with b := 0xF4 } [] [0xC1, 0xF5]
    (fun t => t.ccr == 0xD9 && t.pc == 0xC002) = true := by decide
theorem test_cpd_1 : runs { base with a := 0xA1, b := 0xF5 } [] [0x1A, 0x83, 0xA1, 0xF5]
    (fun t => t.ccr == 0xD4 && t.pc == 0xC004) = true := by decide
theorem test_cpx_1 : runs { base with x := 0x1000 } [] [0x8C, 0xF1, 0xA5]
    (fun t => t.ccr == 0xD1 && t.pc == 0xC003) = true := by decide
theorem test_cpy_1 : runs { base with y := 0x8000 } [] [0x18, 0x8C, 0x00, 0x01]
    (fun t => t.ccr == 0xD2 && t.pc == 0xC004) = true := by decide
theorem test_daa_1 : runs { base with a := 0x7D, ccr := putC (putH 0xD0 false) false } [] [0x19]
    (fun t => t.a == 0x83 && t.pc == 0xC001) = true := by decide
theorem test_daa_2 : runs { base with a := 0x9A, ccr := putC (putH 0xD0 false) false } [] [0x19]
    (fun t => t.a == 0x00 && t.pc == 0xC001) = true := by decide
theorem test_dec_1 : runs base [(0x0040, 0x00)] [0x7A, 0x00, 0x40]
    (fun t => t.byteAt 0x0040 == 0xFF && t.ccr == 0xD8 && t.pc == 0xC003) = true := by decide
theorem test_decb_1 : runs { base with b := 0x80 } [] [0x5A]
    (fun t => t.b == 0x7F && t.ccr == 0xD2 && t.pc == 0xC001) = true := by decide
theorem test_inca_1 : runs { base with a := 0x7F } [] [0x4C]
    (fun t => t.a == 0x80 && t.ccr == 0xDA && t.pc == 0xC001) = true := by decide
theorem test_inca_2 : runs { base with a := 0xFF, ccr := 0xD1 } [] [0x4C]
    (fun t => t.a == 0x00 && t.ccr == 0xD5 && t.pc == 0xC001) = true := by decide
theorem test_des_1 : runs { base with sp := 0x0000 } [] [0x34]
    (fun t => t.sp == 0xFFFF && t.pc == 0xC001) = true := by decide
theorem test_ins_1 : runs { base with sp := 0xFFFF } [] [0x31]
    (fun t => t.sp == 0x0000 && t.pc == 0xC001) = true := by decide
theorem test_inx_1 : runs { base with x := 0xFFFF } [] [0x08]
    (fun t => t.x == 0x0000 && t.ccr == 0xD4 && t.pc == 0xC001) = true := by decide
theorem test_dey_1 : runs { base with y := 0x0000 } [] [0x18, 0x09]
    (fun t => t.y == 0xFFFF && t.ccr == 0xD0 && t.pc == 0xC002) = true := by decide
theorem test_fdiv_1 : runs { base with a := 0x40, b := 0x00, x := 0x8000 } [] [0x03]
    (fun t => t.x == 0x8000 && t.d == 0x0000 && t.ccr == 0xD0 && t.pc == 0xC001) = true := by decide
theorem test_fdiv_2 : runs { base with a := 0x00, b := 0x01, x := 0x0003 } [] [0x03]
    (fun t => t.x == 0x5555 && t.d == 0x0001 && t.pc == 0xC001) = true := by decide
theorem test_idiv_1 : runs { base with a := 0x00, b := 0x64, x := 0x0007 } [] [0x02]
    (fun t => t.x == 0x000E && t.d == 0x0002 && t.ccr == 0xD0 && t.pc == 0xC001) = true := by decide
theorem test_idiv_2 : runs { base with a := 0xFF, b := 0xFF, x := 0x0001 } [] [0x02]
    (fun t => t.x == 0xFFFF && t.d == 0x0000 && t.pc == 0xC001) = true := by decide
theorem test_mul_1 : runs { base with a := 0xFF, b := 0xFF } [] [0x3D]
    (fun t => t.d == 0xFE01 && t.ccr == 0xD0 && t.pc == 0xC001) = true := by decide
theorem test_mul_2 : runs { base with a := 0x10, b := 0x08 } [] [0x3D]
    (fun t => t.d == 0x0080 && t.ccr == 0xD1 && t.pc == 0xC001) = true := by decide
theorem test_nega_1 : runs { base with a := 0x80 } [] [0x40]
    (fun t => t.a == 0x80 && t.ccr == 0xDB && t.pc == 0xC001) = true := by decide
theorem test_nega_2 : runs { base with a := 0x00, ccr := 0xD1 } [] [0x40]
    (fun t => t.a == 0x00 && t.ccr == 0xD4 && t.pc == 0xC001) = true := by decide
theorem test_negb_1 : runs { base with b := 0x01 } [] [0x50]
    (fun t => t.b == 0xFF && t.ccr == 0xD9 && t.pc == 0xC001) = true := by decide
theorem test_sba_1 : runs { base with a := 0x10, b := 0x20 } [] [0x10]
    (fun t => t.a == 0xF0 && t.ccr == 0xD9 && t.pc == 0xC001) = true := by decide
theorem test_sbca_1 : runs { base with a := 0x00, ccr := 0xD1 } [] [0x82, 0x00]
    (fun t => t.a == 0xFF && t.ccr == 0xD9 && t.pc == 0xC002) = true := by decide
theorem test_sbcb_1 : runs { base with b := 0x50, ccr := 0xD1 } [] [0xC2, 0xB2]
    (fun t => t.b == 0x9D && t.ccr == 0xDB && t.pc == 0xC002) = true := by decide
theorem test_suba_1 : runs { base with a := 0x80 } [] [0x80, 0x01]
    (fun t => t.a == 0x7F && t.ccr == 0xD2 && t.pc == 0xC002) = true := by decide
theorem test_subb_1 : runs { base with b := 0xB2 } [] [0xC0, 0xB2]
    (fun t => t.b == 0x00 && t.ccr == 0xD4 && t.pc == 0xC002) = true := by decide
theorem test_subd_1 : runs { base with a := 0x00, b := 0x00 } [] [0x83, 0x00, 0x01]
    (fun t => t.d == 0xFFFF && t.ccr == 0xD9 && t.pc == 0xC003) = true := by decide
theorem test_subd_2 : runs { base with a := 0x80, b := 0x00 } [] [0x83, 0x00, 0x01]
    (fun t => t.d == 0x7FFF && t.ccr == 0xD2 && t.pc == 0xC003) = true := by decide
theorem test_anda_1 : runs { base with a := 0xF0 } [] [0x84, 0xB2]
    (fun t => t.a == 0xB0 && t.ccr == 0xD8 && t.pc == 0xC002) = true := by decide
theorem test_andb_1 : runs { base with b := 0x4D } [] [0xC4, 0xB2]
    (fun t => t.b == 0x00 && t.ccr == 0xD4 && t.pc == 0xC002) = true := by decide
theorem test_bita_1 : runs { base with a := 0x7F } [] [0x85, 0x80]
    (fun t => t.ccr == 0xD4 && t.pc == 0xC002) = true := by decide
theorem test_bitb_1 : runs { base with b := 0xFF } [] [0xC5, 0xB2]
    (fun t => t.ccr == 0xD8 && t.pc == 0xC002) = true := by decide
theorem test_eora_1 : runs { base with a := 0xFF, ccr := 0xD3 } [] [0x88, 0xFF]
    (fun t => t.a == 0x00 && t.ccr == 0xD5 && t.pc == 0xC002) = true := by decide
theorem test_eorb_1 : runs { base with b := 0x32 } [] [0xC8, 0xB2]
    (fun t => t.b == 0x80 && t.ccr == 0xD8 && t.pc == 0xC002) = true := by decide
theorem test_oraa_1 : runs { base with a := 0x00 } [] [0x8A, 0x00]
    (fun t => t.a == 0x00 && t.ccr == 0xD4 && t.pc == 0xC002) = true := by decide
theorem test_orab_1 : runs { base with b := 0x01 } [] [0xCA, 0xB2]
    (fun t => t.b == 0xB3 && t.ccr == 0xD8 && t.pc == 0xC002) = true := by decide
theorem test_coma_1 : runs { base with a := 0x00 } [] [0x43]
    (fun t => t.a == 0xFF && t.ccr == 0xD9 && t.pc == 0xC001) = true := by decide
theorem test_comb_1 : runs { base with b := 0xFF } [] [0x53]
    (fun t => t.b == 0x00 && t.ccr == 0xD5 && t.pc == 0xC001) = true := by decide
theorem test_com_1 : runs { base with x := 0x1000 } [(0x1004, 0x5A)] [0x63, 0x04]
    (fun t => t.byteAt 0x1004 == 0xA5 && t.ccr == 0xD9 && t.pc == 0xC002) = true := by decide
theorem test_clra_1 : runs { base with a := 0x55, ccr := 0xDB } [] [0x4F]
    (fun t => t.a == 0x00 && t.ccr == 0xD4 && t.pc == 0xC001) = true := by decide
theorem test_clr_1 : runs { base with ccr := 0xDB } [(0x0040, 0xAA)] [0x7F, 0x00, 0x40]
    (fun t => t.byteAt 0x0040 == 0x00 && t.ccr == 0xD4 && t.pc == 0xC003) = true := by decide
theorem test_bset_1 : runs base [(0x0030, 0x01)] [0x14, 0x30, 0x80]
    (fun t => t.byteAt 0x0030 == 0x81 && t.ccr == 0xD8) = true := by decide
theorem test_bclr_1 : runs { base with y := 0x2000 } [(0x2000, 0xA5)] [0x18, 0x1D, 0x00, 0xFF]
    (fun t => t.byteAt 0x2000 == 0x00 && t.ccr == 0xD4 && t.pc == 0xC004) = true := by decide
theorem test_clc_1 : runs { base with ccr := 0xD1 } [] [0x0C]
    (fun t => t.ccr == 0xD0 && t.pc == 0xC001) = true := by decide
theorem test_clv_1 : runs { base with ccr := 0xD2 } [] [0x0A]
    (fun t => t.ccr == 0xD0 && t.pc == 0xC001) = true := by decide
theorem test_cli_1 : runs { base with ccr := 0xD0 } [] [0x0E]
    (fun t => t.ccr == 0xC0 && t.pc == 0xC001) = true := by decide
theorem test_cli_2 : runs { base with ccr := 0xC0 } [] [0x0E]
    (fun t => t.ccr == 0xC0 && t.pc == 0xC001) = true := by decide
theorem test_sei_1 : runs { base with ccr := 0xC0 } [] [0x0F]
    (fun t => t.ccr == 0xD0 && t.pc == 0xC001) = true := by decide
theorem test_asl_1 : runs base [(0x0040, 0xC1)] [0x78, 0x00, 0x40]
    (fun t => t.byteAt 0x0040 == 0x82 && t.ccr == 0xD9 && t.pc == 0xC003) = true := by decide
theorem test_asla_1 : runs { base with a := 0x40 } [] [0x48]
    (fun t => t.a == 0x80 && t.ccr == 0xDA && t.pc == 0xC001) = true := by decide
theorem test_aslb_1 : runs { base with b := 0x80 } [] [0x58]
    (fun t => t.b == 0x00 && t.ccr == 0xD7 && t.pc == 0xC001) = true := by decide
theorem test_asld_1 : runs { base with a := 0x40, b := 0x80 } [] [0x05]
    (fun t => t.d == 0x8100 && t.ccr == 0xDA && t.pc == 0xC001) = true := by decide
theorem test_lsld_1 : runs { base with a := 0xFF, b := 0xFF } [] [0x05]
    (fun t => t.d == 0xFFFE && t.ccr == 0xD9 && t.pc == 0xC001) = true := by decide
theorem test_asr_1 : runs base [(0x0040, 0x82)] [0x77, 0x00, 0x40]
    (fun t => t.byteAt 0x0040 == 0xC1 && t.ccr == 0xDA && t.pc == 0xC003) = true := by decide
theorem test_asra_1 : runs { base with a := 0x81 } [] [0x47]
    (fun t => t.a == 0xC0 && t.ccr == 0xD9 && t.pc == 0xC001) = true := by decide
theorem test_asrb_1 : runs { base with b := 0x01 } [] [0x57]
    (fun t => t.b == 0x00 && t.ccr == 0xD7 && t.pc == 0xC001) = true := by decide
theorem test_lsr_1 : runs base [(0x0040, 0x82)] [0x74, 0x00, 0x40]
    (fun t => t.byteAt 0x0040 == 0x41 && t.ccr == 0xD0 && t.pc == 0xC003) = true := by decide
theorem test_lsra_1 : runs { base with a := 0xFF } [] [0x44]
    (fun t => t.a == 0x7F && t.ccr == 0xD3 && t.pc == 0xC001) = true := by decide
theorem test_lsrb_1 : runs { base with b := 0x01 } [] [0x54]
    (fun t => t.b == 0x00 && t.ccr == 0xD7 && t.pc == 0xC001) = true := by decide
theorem test_lsrd_1 : runs { base with a := 0x80, b := 0x01 } [] [0x04]
    (fun t => t.d == 0x4000 && t.ccr == 0xD3 && t.pc == 0xC001) = true := by decide
theorem test_rol_1 : runs { base with ccr := 0xD1 } [(0x0040, 0x80)] [0x79, 0x00, 0x40]
    (fun t => t.byteAt 0x0040 == 0x01 && t.ccr == 0xD3 && t.pc == 0xC003) = true := by decide
theorem test_rola_1 : runs { base with a := 0x55, ccr := putC 0xD0 false } [] [0x49]
    (fun t => t.a == 0xAA && t.ccr == 0xDA && t.pc == 0xC001) = true := by decide
theorem test_rolb_1 : runs { base with b := 0x00, ccr := 0xD1 } [] [0x59]
    (fun t => t.b == 0x01 && t.ccr == 0xD0 && t.pc == 0xC001) = true := by decide
theorem test_ror_1 : runs { base with ccr := putC 0xD0 false } [(0x0040, 0x01)] [0x76, 0x00, 0x40]
    (fun t => t.byteAt 0x0040 == 0x00 && t.ccr == 0xD7 && t.pc == 0xC003) = true := by decide
theorem test_rora_1 : runs { base with a := 0x02, ccr := 0xD1 } [] [0x46]
    (fun t => t.a == 0x81 && t.ccr == 0xDA && t.pc == 0xC001) = true := by decide
theorem test_rorb_1 : runs { base with b := 0xFF, ccr := 0xD1 } [] [0x56]
    (fun t => t.b == 0xFF && t.ccr == 0xD9 && t.pc == 0xC001) = true := by decide
theorem test_brset_1 : runs { base with pc := 0xC003, x := 0x1000 } [(0x1004, 0x80)] [0x1E, 0x04, 0x80, 0xFC]
    (fun t => t.pc == 0xC003) = true := by decide
theorem test_brclr_1 : runs { base with y := 0x2000 } [(0x2000, 0x00)] [0x18, 0x1F, 0x00, 0x80, 0xFB]
    (fun t => t.pc == 0xC000) = true := by decide
theorem test_brclr_2 : runs base [(0x0030, 0xFF)] [0x13, 0x30, 0x00, 0x10]
    (fun t => t.pc == 0xC014) = true := by decide
theorem test_brset_2 : runs base [(0x0030, 0x00)] [0x12, 0x30, 0x00, 0x10]
    (fun t => t.pc == 0xC014) = true := by decide
theorem test_bsr_1 : runs { base with sp := 0x00FF } [] [0x8D, 0x10]
    (fun t => t.byteAt 0x00FF == 0x02 && t.byteAt 0x00FE == 0xC0 && t.sp == 0x00FD && t.pc == 0xC012) = true := by decide
theorem test_jsr_1 : runs { base with sp := 0x00FF } [] [0xBD, 0xC1, 0x00]
    (fun t => t.byteAt 0x00FF == 0x03 && t.byteAt 0x00FE == 0xC0 && t.sp == 0x00FD && t.pc == 0xC100) = true := by decide
theorem test_jsr_2 : runs { base with sp := 0x00FF } [] [0x9D, 0x80]
    (fun t => t.byteAt 0x00FF == 0x02 && t.byteAt 0x00FE == 0xC0 && t.pc == 0x0080) = true := by decide
theorem test_jmp_1 : runs base [] [0x7E, 0xD0, 0x00]
    (fun t => t.pc == 0xD000) = true := by decide
theorem test_jmp_2 : runs { base with x := 0xD000 } [] [0x6E, 0x04]
    (fun t => t.pc == 0xD004) = true := by decide
theorem test_rts_1 : runs { base with sp := 0x00FD } [(0x00FE, 0xC0), (0x00FF, 0x02)] [0x39]
    (fun t => t.pc == 0xC002 && t.sp == 0x00FF) = true := by decide
theorem test_nop_1 : runs base [] [0x01]
    (fun t => t.pc == 0xC001) = true := by decide
theorem test_swi_1 : runs { base with a := 0x11, b := 0x22, x := 0x1234, y := 0xABCD, ccr := 0xC0, sp := 0x00FF } [(0xFFF6, 0xE0), (0xFFF7, 0x00)] [0x3F]
    (fun t => t.byteAt 0x00FF == 0x01 && t.byteAt 0x00FE == 0xC0 && t.byteAt 0x00FD == 0xCD && t.byteAt 0x00FC == 0xAB && t.byteAt 0x00FB == 0x34 && t.byteAt 0x00FA == 0x12 && t.byteAt 0x00F9 == 0x11 && t.byteAt 0x00F8 == 0x22 && t.byteAt 0x00F7 == 0xC0 && t.sp == 0x00F6 && t.ccr == 0xD0 && t.pc == 0xE000) = true := by decide
theorem test_rti_2 : runs { base with ccr := 0x90, sp := 0x00F6 } [(0x00F7, 0xFF), (0x00F8, 0x22), (0x00F9, 0x11), (0x00FA, 0x12), (0x00FB, 0x34), (0x00FC, 0xAB), (0x00FD, 0xCD), (0x00FE, 0xC0), (0x00FF, 0x01)] [0x3B]
    (fun t => t.ccr == 0xBF && t.b == 0x22 && t.a == 0x11 && t.x == 0x1234 && t.y == 0xABCD && t.pc == 0xC001 && t.sp == 0x00FF) = true := by decide
theorem test_stop_1 : runs { base with ccr := 0xD0 } [] [0xCF]
    (fun t => t.pc == 0xC001) = true := by decide
theorem test_stop_2 : runs { base with ccr := 0x50 } [] [0xCF]
    (fun t => t.pc == 0xC001) = true := by decide
theorem test_wai_1 : runs { base with a := 0x01, b := 0x02, x := 0x0304, y := 0x0506, sp := 0x00FF, ccr := 0x40 } [] [0x3E]
    (fun t => t.byteAt 0x00FF == 0x01 && t.byteAt 0x00FE == 0xC0 && t.byteAt 0x00FD == 0x06 && t.byteAt 0x00FC == 0x05 && t.byteAt 0x00FB == 0x04 && t.byteAt 0x00FA == 0x03 && t.byteAt 0x00F9 == 0x01 && t.byteAt 0x00F8 == 0x02 && t.byteAt 0x00F7 == 0x40 && t.sp == 0x00F6 && t.pc == 0xC001) = true := by decide
theorem test_tsx_1 : runs { base with sp := 0x00F6 } [] [0x30]
    (fun t => t.x == 0x00F7 && t.pc == 0xC001) = true := by decide
theorem test_txs_1 : runs { base with x := 0x0100 } [] [0x35]
    (fun t => t.sp == 0x00FF && t.pc == 0xC001) = true := by decide
theorem test_tsy_1 : runs { base with sp := 0xFFFF } [] [0x18, 0x30]
    (fun t => t.y == 0x0000 && t.pc == 0xC002) = true := by decide
theorem test_tsta_1 : runs { base with a := 0x80, ccr := 0xD3 } [] [0x4D]
    (fun t => t.ccr == 0xD8 && t.pc == 0xC001) = true := by decide
theorem test_tst_1 : runs { base with ccr := 0xD3 } [(0x0040, 0x00)] [0x7D, 0x00, 0x40]
    (fun t => t.ccr == 0xD4 && t.pc == 0xC003) = true := by decide
theorem test_pshb : runs { base with b := 0x01, sp := 0x00FE } [] [0x37]
    (fun t => t.byteAt 0x00FE == 0x01 && t.sp == 0x00FD) = true := by decide
theorem test_pulb : runs { base with sp := 0x00FD } [(0x00FE, 0x01)] [0x33]
    (fun t => t.b == 0x01 && t.sp == 0x00FE) = true := by decide
theorem test_clrb : runs { base with b := 0x12 } [] [0x5F]
    (fun t => t.b == 0 && flagZ t.ccr && !flagC t.ccr) = true := by decide
theorem test_cmpa : runs { base with a := 0x08 } [] [0x81, 0x08]
    (fun t => t.a == 0x08 && t.ccr == 0xD4) = true := by decide
theorem test_deca : runs { base with a := 0x80 } [] [0x4A]
    (fun t => t.a == 0x7F && t.ccr == 0xD2) = true := by decide
theorem test_dex : runs { base with x := 1 } [] [0x09]
    (fun t => t.x == 0 && flagZ t.ccr) = true := by decide
theorem test_inc : runs base [(0x2000, 0xFF)] [0x7C, 0x20, 0x00]
    (fun t => t.byteAt 0x2000 == 0 && t.ccr == 0xD4) = true := by decide
theorem test_incb : runs { base with b := 0x0F } [] [0x5C]
    (fun t => t.b == 0x10 && t.ccr == 0xD0) = true := by decide
theorem test_iny : runs { base with y := 0xFFFF } [] [0x18, 0x08]
    (fun t => t.y == 0 && flagZ t.ccr) = true := by decide
theorem test_neg : runs base [(0x2000, 0x01)] [0x70, 0x20, 0x00]
    (fun t => t.byteAt 0x2000 == 0xFF && t.ccr == 0xD9) = true := by decide
theorem test_sec : runs base [] [0x0D]
    (fun t => t.ccr == 0xD1) = true := by decide
theorem test_sev : runs base [] [0x0B]
    (fun t => t.ccr == 0xD2) = true := by decide
theorem test_bcc_taken : runs base [] [0x24, 0x0E]
    (fun t => t.pc == 0xC010) = true := by decide
theorem test_bcc_not : runs { base with ccr := 0xD1 } [] [0x24, 0x0E]
    (fun t => t.pc == 0xC002) = true := by decide
theorem test_bcs : runs { base with ccr := 0xD1 } [] [0x25, 0xFE]
    (fun t => t.pc == 0xC000) = true := by decide
theorem test_beq : runs { base with ccr := 0xD4, pc := 0xC002 } [] [0x27, 0x10]
    (fun t => t.pc == 0xC014) = true := by decide
theorem test_bmi : runs { base with ccr := 0xD8, pc := 0x0100 } [] [0x2B, 0x7F]
    (fun t => t.pc == 0x0181) = true := by decide
theorem test_bne : runs { base with ccr := 0xD9 } [] [0x26, 0x10]
    (fun t => t.pc == 0xC012) = true := by decide
theorem test_bpl : runs { base with pc := 0x0100 } [] [0x2A, 0x80]
    (fun t => t.pc == 0x0082) = true := by decide
theorem test_bvc : runs { base with ccr := 0xDA } [] [0x28, 0x10]
    (fun t => t.pc == 0xC002) = true := by decide
theorem test_bvs : runs { base with ccr := 0xDA } [] [0x29, 0x10]
    (fun t => t.pc == 0xC012) = true := by decide
theorem test_bge : runs { base with ccr := 0xD1 } [] [0x2C, 0x10]
    (fun t => t.pc == 0xC012) = true := by decide
theorem test_bgt : runs base [] [0x2E, 0x10]
    (fun t => t.pc == 0xC012) = true := by decide
theorem test_ble : runs { base with ccr := 0xD4 } [] [0x2F, 0x10]
    (fun t => t.pc == 0xC012) = true := by decide
theorem test_blt : runs { base with ccr := 0xD2 } [] [0x2D, 0x10]
    (fun t => t.pc == 0xC012) = true := by decide
theorem test_bhi : runs { base with ccr := 0xD2 } [] [0x22, 0x10]
    (fun t => t.pc == 0xC012) = true := by decide
theorem test_bls : runs { base with ccr := 0xD4 } [] [0x23, 0x10]
    (fun t => t.pc == 0xC012) = true := by decide
theorem test_bra : runs base [] [0x20, 0xFE]
    (fun t => t.pc == 0xC000) = true := by decide
theorem test_brn : runs base [] [0x21, 0x55]
    (fun t => t.pc == 0xC002) = true := by decide
theorem test_test : runs { base with sp := 0x00FF } [(0xFFF8, 0xE1), (0xFFF9, 0x00)] [0x00]
    (fun t => t.byteAt 0x00FE == 0xC0 && t.byteAt 0x00FF == 0 && t.pc == 0xE100) = true := by decide
theorem test_tstb : runs { base with b := 0xFF } [] [0x5D]
    (fun t => t.ccr == 0xD8) = true := by decide
theorem test_illegal_page2 : runs { base with sp := 0x00FF } [(0xFFF8, 0xE1), (0xFFF9, 0x00)] [0x18, 0x00]
    (fun t => t.byteAt 0x00FE == 0xC0 && t.byteAt 0x00FF == 0 && t.pc == 0xE100) = true := by decide

/-! ## Witnesses: states and operands that meet the hypotheses of the statements -/

/-- A map with every kind of address: io from $1000, unmapped from $2000, rom from $E000. -/
def mapped : State :=
  { base with
    sp := 0x00FF
    mem := [(0x0000, 0x12), (0xFFFE, 0x00), (0xFFFF, 0x34)]
    params :=
      { Params.default with
        memMap := [⟨0x1000, 0x103F, .io, false, true⟩, ⟨0x2000, 0x2FFF, .unmapped, false, false⟩,
          ⟨0xE000, 0xFFFF, .rom, false, false⟩] } }

/-- A map whose last region is read-sensitive io where the real CPU makes bus cycles that no rule lists. -/
def refusedMap : State :=
  { mapped with
    params :=
      { Params.default with
        memMap := [⟨0xE000, 0xFFFF, .rom, false, true⟩, ⟨0x1000, 0x103F, .io, true, true⟩] } }

theorem witness_ReadSensitiveMapsRefused : (⟨0x1000, 0x103F, .io, true, true⟩ : Region) ∈ refusedMap.params.memMap ∧
    step refusedMap = .refused .ioMapRefused := ⟨by decide, rfl⟩
theorem test_other_maps_run :
    ∃ t, step (pokeBytes mapped.pc [0x01] mapped) = .next t := ⟨_, rfl⟩

theorem witness_DecodeOfEncode : WellFormed (.brset (.indy 0xFF) 0x00 0xFF) = true := by decide

theorem witness_EncodeOfDecode :
    decode [0x18, 0x1E, 0xFF, 0x00, 0xFF, 0x01] = .ok (.brset (.indy 0xFF) 0x00 0xFF) [0x01] := by decide

theorem witness_UndefinedOpcodes :
    ((0xC7 : Byte) ≠ 0x18 ∧ (0xC7 : Byte) ≠ 0x1A ∧ (0xC7 : Byte) ≠ 0xCD) ∧
      decode [0xC7] = .rejected (.illegalOpcode .p1 0xC7) ∧
      decode [0x18, 0x18] = .rejected (.illegalOpcode .p2 0x18) ∧
      decode [0x1A, 0x84] = .rejected (.illegalOpcode .p3 0x84) ∧
      decode [0xCD, 0xF0] = .rejected (.illegalOpcode .p4 0xF0) := by decide

theorem witness_MemoryAccesses_plain : Plain mapped 0x0FFF ∧ Plain mapped 0xE000 := ⟨.inl rfl, .inr rfl⟩
theorem witness_MemoryAccesses_io :
    kindAt mapped.params 0x1000 = .io ∧ kindAt mapped.params 0x103F = .io := by decide
theorem witness_MemoryAccesses_unmapped :
    kindAt mapped.params 0x2000 = .unmapped ∧ kindAt mapped.params 0x2FFF = .unmapped := by decide
theorem witness_MemoryAccesses_ram : mapped.mem.wf = true ∧ kindAt base.params 0xFFFF = .ram ∧
    kindAt base.params (0xFFFF + 1) = .ram := by decide

theorem witness_StoreAccumulators : mapped.mem.wf = true := by decide
theorem witness_StoreWordRegisters : mapped.mem.wf = true := by decide
theorem witness_Pushes : mapped.mem.wf = true := by decide
theorem witness_Clears : mapped.mem.wf = true := by decide
theorem witness_ComplementsAndNegations : mapped.mem.wf = true := by decide
theorem witness_IncrementsAndDecrements : mapped.mem.wf = true := by decide
theorem witness_BitSetAndClear : mapped.mem.wf = true := by decide
theorem witness_LeftShifts : mapped.mem.wf = true := by decide
theorem witness_RightShifts : mapped.mem.wf = true := by decide
theorem witness_JumpsAndCalls : mapped.mem.wf = true := by decide
theorem witness_SoftwareInterrupt : mapped.mem.wf = true := by decide
theorem witness_WaitAndStop : mapped.mem.wf = true := by decide

theorem witness_StackDiscipline : base.mem.wf = true ∧ kindAt base.params base.sp = .ram ∧
    kindAt base.params (base.sp - 1) = .ram := by decide

theorem witness_Divisions_forced : base.x = 0 ∧
    ({ base with a := 0xFF, x := 0xFF00 } : State).x.toNat ≤ (cat 0xFF 0x00).toNat := by decide
theorem witness_Divisions_exact :
    ¬ ((0xFFFF : Word) = 0 ∨ (0xFFFF : Word).toNat ≤ (cat 0xFF 0xFE).toNat) := by decide

theorem witness_DecimalAdditionExact : 99 < 100 ∧
    ({ base with a := bcd 99, b := bcd 99 } : State).a = bcd 99 ∧
    ({ base with a := bcd 99, b := bcd 99 } : State).b = bcd 99 ∧
    operand8 (.imm (bcd 99)) base = bcd 99 := by decide

theorem witness_DecimalAdditionExact_memory :
    operand8 (.mem (.dir 0x20)) (pokeBytes 0x0020 [0x99] base) = bcd 99 ∧
    operand8 (.mem (.indy 0x20)) (pokeBytes 0x0020 [0x99] { base with y := 0x0000 }) = bcd 99 := by decide

theorem witness_FlagInstructions : flagI base.ccr = true := by decide
theorem witness_FlagInstructions_sei :
    Deliverable { base with ccr := 0x90, pending := [.xirq] } ⟨.xirq, 0xFFF4, 0, .classX, true⟩ :=
  ⟨by decide, by decide, fun _ => by decide, fun h => (nomatch h)⟩

theorem witness_BitBranches_empty_mask : ∀ i, i < 8 → bit 0x00 i = true → bit 0x5A i = false := by decide
theorem witness_BitBranches_clear : ∀ i, i < 8 → bit 0x05 i = true → bit 0xFA i = false := by decide
theorem witness_BitBranches_not_clear : ∃ i, i < 8 ∧ bit 0x05 i = true ∧ bit 0xFB i = true :=
  ⟨0, by decide, by decide, by decide⟩
theorem witness_BitBranches_set : ∀ i, i < 8 → bit 0x05 i = true → bit 0x05 i = true := by decide
theorem witness_BitBranches_not_set : ∃ i, i < 8 ∧ bit 0x05 i = true ∧ bit 0x04 i = false :=
  ⟨0, by decide, by decide, by decide⟩

theorem witness_TestInstruction_trap : base.mem.wf = true ∧ base.params.testMode = false ∧
    base.params.illegalPolicy = .trap := by decide

/-- The default parameters with the fault policy (60_exceptions.md R503). -/
def faulting : State := { base with params := { Params.default with illegalPolicy := .fault } }

theorem witness_TestInstruction_fault : faulting.mem.wf = true ∧ faulting.params.testMode = false ∧
    faulting.params.illegalPolicy = .fault := by decide

/-- The default parameters in test mode (46_absent_from_source.md R480). -/
def testing : State := { base with params := { Params.default with testMode := true } }

theorem witness_TestInstruction_test_mode : testing.mem.wf = true ∧ testing.params.testMode = true := by decide

theorem test_test_in_test_mode :
    step (pokeBytes testing.pc [0x00] testing) = .refused .testExecuted := rfl
theorem test_illegal_faults : step (pokeBytes faulting.pc [0x41] faulting) = .fault (.illegalOpcode 0xC000) := rfl

theorem witness_EntryThenReturn : base.mem.wf = true ∧
    ∀ k : Nat, k < 9 → kindAt base.params (4 - BitVec.ofNat 16 k) = .ram := by decide

/-- Nothing requested is deliverable when nothing is requested. -/
theorem none_deliverable {s : State} (h : s.pending = []) (r : IntSource) : ¬ Deliverable s r := fun d => by
  have hm := d.2.1
  rw [h] at hm
  exact absurd hm List.not_mem_nil

/-- Five bytes that run over the end of the address space. -/
def atTheEnd : State := pokeBytes 0xFFFE [0x18, 0x1E, 0x04, 0x80, 0xFC] { base with pc := 0xFFFE }

theorem witness_StepRunsDecoded : sample atTheEnd = atTheEnd ∧ mapRefused atTheEnd.params = false ∧ atTheEnd.resetReq = false ∧
    atTheEnd.runState = .running ∧ (atTheEnd.inhibit = true ∨ ∀ r, ¬ Deliverable atTheEnd r) ∧
    decode (readRun 5 atTheEnd.pc atTheEnd).1 = .ok (.brset (.indy 0x04) 0x80 0xFC) [] :=
  ⟨rfl, rfl, rfl, rfl, .inr (none_deliverable rfl), by decide⟩

theorem witness_StepRunsDecoded_plain : ∀ k : Nat, k < 2 → Plain mapped (0xE000 + BitVec.ofNat 16 k) := by
  unfold Plain
  decide

/-- A NOP under an unmasked IRQ, inhibited. -/
def inhibited : State :=
  pokeBytes 0xC000 [0x01] { base with ccr := 0xC0, pending := [.irq], inhibit := true }

theorem witness_InhibitOneInstruction : sample inhibited = inhibited ∧ mapRefused inhibited.params = false ∧
    inhibited.resetReq = false ∧
    inhibited.runState = .running ∧ inhibited.inhibit = true ∧
    decode (readRun 1 inhibited.pc inhibited).1 = .ok .nop [] ∧ ∃ t, step inhibited = .next t :=
  ⟨rfl, rfl, rfl, rfl, rfl, by decide, _, rfl⟩

theorem test_inhibited_step : stepsTo inhibited (fun t => t.pc == 0xC001 && !t.inhibit) = true := by decide

/-- An undefined opcode of page 1, and one of page 2, at PC. -/
def undefined1 : State := pokeBytes 0xC000 [0x41] base
def undefined2 : State := pokeBytes 0xC000 [0x18, 0x18] faulting

theorem witness_StepAtUndefinedOpcode_page1 : sample undefined1 = undefined1 ∧
    mapRefused undefined1.params = false ∧ undefined1.resetReq = false ∧
    undefined1.runState = .running ∧ (undefined1.inhibit = true ∨ ∀ r, ¬ Deliverable undefined1 r) ∧
    undefined1.mem.wf = true ∧
    decode (readRun 1 undefined1.pc undefined1).1 = .rejected (.illegalOpcode .p1 0x41) ∧
    undefined1.params.illegalPolicy = .trap :=
  ⟨rfl, rfl, rfl, rfl, .inr (none_deliverable rfl), by decide, by decide, rfl⟩

theorem witness_StepAtUndefinedOpcode_page2 : sample undefined2 = undefined2 ∧
    mapRefused undefined2.params = false ∧ undefined2.resetReq = false ∧
    undefined2.runState = .running ∧ (undefined2.inhibit = true ∨ ∀ r, ¬ Deliverable undefined2 r) ∧
    undefined2.mem.wf = true ∧
    decode (readRun 2 undefined2.pc undefined2).1 = .rejected (.illegalOpcode .p2 0x18) ∧
    undefined2.params.illegalPolicy = .fault :=
  ⟨rfl, rfl, rfl, rfl, .inr (none_deliverable rfl), by decide, by decide, rfl⟩

theorem witness_RequestsSampled : base.inputs = [] ∧
    ({ base with inputs := [⟨false, [.irq]⟩] } : State).inputs = ⟨false, [.irq]⟩ :: [] := by decide

theorem witness_ResetStep : sample { mapped with resetReq := true } = { mapped with resetReq := true } ∧
    mapRefused mapped.params = false ∧ ({ mapped with resetReq := true } : State).resetReq = true ∧
    Plain mapped mapped.params.vecReset ∧ Plain mapped (mapped.params.vecReset + 1) :=
  ⟨rfl, rfl, rfl, .inr rfl, .inr rfl⟩

theorem test_reset_step : stepsTo { mapped with resetReq := true, runState := .stopped }
    (fun t => t.pc == 0x0034 && t.runState == .running) = true := by decide

/-- Stopped, with X and I clear. -/
def stopped : State := { base with ccr := 0x00, sp := 0x00FF, runState := .stopped }

theorem witness_StoppedStep_xirq : sample { stopped with pending := [.xirq] } = { stopped with pending := [.xirq] } ∧
    mapRefused stopped.params = false ∧ stopped.resetReq = false ∧ stopped.runState = .stopped ∧ stopped.mem.wf = true ∧
    (∃ r, r ∈ stopped.params.intSources ∧ r.name = .xirq ∧
      .xirq ∈ ({ stopped with pending := [.xirq] } : State).pending) ∧ flagX stopped.ccr = false :=
  ⟨rfl, rfl, rfl, rfl, by decide, ⟨_, .head _, rfl, .head _⟩, by decide⟩

theorem witness_StoppedStep_masked_xirq : flagX ({ stopped with ccr := 0x40 } : State).ccr = true := by decide

theorem witness_StoppedStep_irq :
    Deliverable { stopped with pending := [.irq] } ⟨.irq, 0xFFF2, 1, .classI, true⟩ ∧
    ¬ ∃ r, r ∈ stopped.params.intSources ∧ r.name = .xirq ∧
      .xirq ∈ ({ stopped with pending := [.irq] } : State).pending :=
  ⟨⟨by decide, by decide, fun h => (nomatch h), fun _ => by decide⟩,
    fun ⟨_, _, _, h⟩ => absurd h (by decide)⟩

theorem witness_StoppedStep_nothing : ∀ r, Deliverable stopped r → r.wakesStop = false :=
  fun r h => absurd h (none_deliverable rfl r)

/-- Waiting, with I clear and IRQ requested. -/
def waiting : State := { base with ccr := 0x40, runState := .waiting, pending := [.irq] }

theorem witness_WaitingStep : sample waiting = waiting ∧ mapRefused waiting.params = false ∧
    waiting.resetReq = false ∧
    waiting.runState = .waiting ∧ Deliverable waiting ⟨.irq, 0xFFF2, 1, .classI, true⟩ :=
  ⟨rfl, rfl, rfl, rfl, by decide, by decide, fun h => (nomatch h), fun _ => by decide⟩

theorem witness_WaitingStep_nothing :
    ({ waiting with pending := [] } : State).runState = .waiting ∧
      ∀ r, ¬ Deliverable { waiting with pending := [] } r := ⟨rfl, none_deliverable rfl⟩

/-- 95_test_vectors.md Part 2, "IRQ ends that WAI". -/
theorem test_irq_ends_wai : stepsTo (put [(0xFFF2, 0xD0), (0xFFF3, 0x00)] waiting)
    (fun t => t.pc == 0xD000 && t.ccr == 0x50 && t.sp == waiting.sp && t.runState == .running) = true := by decide

/-- XIRQ and IRQ requested between two instructions, neither masked. -/
def requesting : State := { base with ccr := 0x00, sp := 0x00FF, pending := [.irq, .xirq] }

theorem witness_InterruptStep : sample requesting = requesting ∧ mapRefused requesting.params = false ∧
    requesting.resetReq = false ∧
    requesting.runState = .running ∧ requesting.inhibit = false ∧ requesting.mem.wf = true ∧
    Deliverable requesting ⟨.irq, 0xFFF2, 1, .classI, true⟩ :=
  ⟨rfl, rfl, rfl, rfl, rfl, by decide, by decide, by decide, fun h => (nomatch h), fun _ => by decide⟩

theorem witness_XirqMaskRises :
    ∃ t, step requesting = .next t ∧ flagX requesting.ccr = false ∧ flagX t.ccr = true :=
  ⟨_, rfl, by decide, by decide⟩

theorem witness_PartsWrittenAsTabled : ∃ t, exec .psha base = .next t := ⟨_, rfl⟩
theorem witness_BytesStoredAsTabled : base.mem.wf = true ∧ ∃ t, exec .psha base = .next t := ⟨rfl, _, rfl⟩

theorem witness_InvariantKept : Inv inhibited ∧ ∃ t, step inhibited = .next t :=
  ⟨⟨by decide, fun _ => ⟨rfl, by decide⟩⟩, _, rfl⟩

theorem witness_NeverStops : base.params.illegalPolicy = .trap ∧ base.params.testMode = false ∧
    mapRefused base.params = false := by decide

/-! ## The fetch of the host's words (log 24) -/

theorem test_withFetchWord :
    stepsTo (State.reset.withFetchWord 8 0x36) (fun t => t.sp == 0xFFFF && t.pc == 0x0001) = true := by decide
theorem test_decodeTableWord : decodeTableWord 16 0x1E18 = some (.brset (.indy 0) 0 0) := by decide

end Sys2Proof.Tests
end

/-! The step that runs an instruction (00_scope.md R13, R20; 30_encoding.md R112): when a step comes to the fetch,
and what a run of byte reads in ram and rom gives. -/

namespace Sys2Proof.Machine

open Sys2Proof.Vocabulary

/-! ## When a step comes to the fetch -/

/-- No interrupt is taken when the inhibit is set or nothing requested is unmasked (70_reset_and_hazards.md R560;
60_exceptions.md R506, R508). -/
theorem interruptNow_eq_none {s : State} :
    interruptNow s = none ↔ s.inhibit = true ∨ ∀ r, ¬ Deliverable s r := by
  unfold interruptNow
  cases s.inhibit with
  | true => simp
  | false => simp [highest_eq_none, List.eq_nil_iff_forall_not_mem, mem_unmasked]

/-- With no reset and no interrupt to take, the running state is step (4) of 00_scope.md R20. -/
theorem sampledStep_of_interruptNow_none {ex : Instr → State → Host.Outcome State Fault Refusal} {s : State}
    (hreset : s.resetReq = false) (hrun : s.runState = .running) (hnone : interruptNow s = none) :
    sampledStep ex s = instructionStep ex s := by
  simp [sampledStep, hreset, hrun, hnone]

/-- The steps that fetch: the map is not refused, the machine runs, and neither a reset nor an interrupt comes
first. -/
theorem step_eq_instructionStep {s u : State} (hsample : sample s = u) (hmap : mapRefused u.params = false)
    (hreset : u.resetReq = false) (hrun : u.runState = .running)
    (hquiet : u.inhibit = true ∨ ∀ r, ¬ Deliverable u r) : step s = instructionStep exec u := by
  subst hsample
  rw [sample_params] at hmap
  rw [step_of_map hmap, sampledStep_of_interruptNow_none hreset hrun (interruptNow_eq_none.2 hquiet)]

/-- Bytes at PC that decode with nothing left over are executed from PCnext, the inhibit ended. -/
theorem instructionStep_of_decode {ex : Instr → State → Host.Outcome State Fault Refusal} {n : Nat} {s : State}
    {i : Instr} (h : decode (readRun n s.pc s).1 = .ok i []) :
    instructionStep ex s = ex i (((readRun n s.pc s).2.setPc (s.pc + BitVec.ofNat 16 n)).setInhibit false) := by
  simp only [instructionStep, fetchInstr_of_decode h]

/-! ## A run of byte reads in ram and rom -/

/-- The k-th address after the next one is the (k+1)-th after this one, modulo 65536. -/
theorem add_ofNat_succ (a : Word) (k : Nat) : a + BitVec.ofNat 16 (k + 1) = a + 1 + BitVec.ofNat 16 k := by
  rw [BitVec.add_assoc, Nat.add_comm k 1, BitVec.ofNat_add]
  rfl

/-- A run of byte reads in ram and rom gives the bytes stored (20_memory.md R72). -/
theorem readRun_bytes_plain {n : Nat} {a : Word} {s : State}
    (h : ∀ k : Nat, k < n → Plain s (a + BitVec.ofNat 16 k)) :
    (readRun n a s).1 = (List.range n).map fun k => s.byteAt (a + BitVec.ofNat 16 k) := by
  induction n generalizing a with
  | zero => rfl
  | succ n ih =>
    have hfirst : Plain s a := by simpa using h 0 (by omega)
    have hrest : ∀ k : Nat, k < n → Plain s (a + 1 + BitVec.ofNat 16 k) := fun k hk =>
      add_ofNat_succ a k ▸ h (k + 1) (by omega)
    simp only [readRun, readByte_plain hfirst, ih hrest, List.range_succ_eq_map, List.map_cons, List.map_map]
    congr 1
    · simp
    · exact List.map_congr_left fun k _ => congrArg s.byteAt (add_ofNat_succ a k).symm

/-! ## The obligation -/

/-- Settles O46: the step comes to the fetch, the fetch gives the decoded instruction, and reads in ram and rom
are plain. -/
theorem stepRunsDecoded : Obligations.StepRunsDecoded := by
  unfold Obligations.StepRunsDecoded
  constructor
  · intro s u n i hsample hmap hreset hrun hquiet hdecode
    rw [step_eq_instructionStep hsample hmap hreset hrun hquiet, instructionStep_of_decode hdecode]
  · intro n a s hplain
    exact Prod.ext (readRun_bytes_plain hplain) (readRun_plain hplain)

end Sys2Proof.Machine

/-! The frame of every operation: which registers and flags each may write, composed along its definition, and so of
every instruction (10_state.md R49, R51, R53, R55). -/

namespace Sys2Proof.Vocabulary

open Sys2Proof.Machine

/-! ## What is kept, composed -/

variable {written later : List Part} {s t u : State}

theorem KeepsBut.refl (s : State) : KeepsBut [] s s := ⟨fun _ _ => rfl, rfl, rfl, rfl, rfl⟩

theorem KeepsBut.mono (h : KeepsBut written s t) (hsub : written ⊆ later) : KeepsBut later s t :=
  ⟨fun p hp => h.1 p fun hmem => hp (hsub hmem), h.2⟩

/-- What two operations in a row write is what either writes. -/
theorem KeepsBut.trans (h : KeepsBut written s t) (h' : KeepsBut later t u) : KeepsBut (written ++ later) s u := by
  obtain ⟨hparts, hreset, hpending, hinputs, hparams⟩ := h
  obtain ⟨hparts', hreset', hpending', hinputs', hparams'⟩ := h'
  refine ⟨fun p hp => ?_, hreset'.trans hreset, hpending'.trans hpending, hinputs'.trans hinputs,
    hparams'.trans hparams⟩
  rw [List.mem_append, not_or] at hp
  exact (hparts' p hp.2).trans (hparts p hp.1)

/-- A part written and restored is kept. -/
theorem KeepsBut.of_restored (h : KeepsBut written s t) (hrestored : ∀ p ∈ written, p.value t = p.value s) :
    KeepsBut [] s t := by
  refine ⟨fun p _ => ?_, h.2⟩
  by_cases hp : p ∈ written
  · exact hrestored p hp
  · exact h.1 p hp

/-- An instruction's one next state keeps what the state computed keeps. -/
theorem KeepsBut.of_next (h : (.next t : Host.Outcome State Fault Refusal) = .next u)
    (hkeeps : KeepsBut written s t) : KeepsBut written s u := by
  injection h with h
  exact h ▸ hkeeps

/-! ## The parts a named update writes -/

theorem setA_keepsBut (v : Byte) (s : State) : KeepsBut [.a] s (s.setA v) :=
  ⟨fun p hp => by cases p <;> simp [Part.value] at hp ⊢, rfl, rfl, rfl, rfl⟩

theorem setB_keepsBut (v : Byte) (s : State) : KeepsBut [.b] s (s.setB v) :=
  ⟨fun p hp => by cases p <;> simp [Part.value] at hp ⊢, rfl, rfl, rfl, rfl⟩

theorem setX_keepsBut (v : Word) (s : State) : KeepsBut [.x] s (s.setX v) :=
  ⟨fun p hp => by cases p <;> simp [Part.value] at hp ⊢, rfl, rfl, rfl, rfl⟩

theorem setY_keepsBut (v : Word) (s : State) : KeepsBut [.y] s (s.setY v) :=
  ⟨fun p hp => by cases p <;> simp [Part.value] at hp ⊢, rfl, rfl, rfl, rfl⟩

theorem setSp_keepsBut (v : Word) (s : State) : KeepsBut [.sp] s (s.setSp v) :=
  ⟨fun p hp => by cases p <;> simp [Part.value] at hp ⊢, rfl, rfl, rfl, rfl⟩

theorem setPc_keepsBut (v : Word) (s : State) : KeepsBut [.pc] s (s.setPc v) :=
  ⟨fun p hp => by cases p <;> simp [Part.value] at hp ⊢, rfl, rfl, rfl, rfl⟩

theorem setRunState_keepsBut (v : RunState) (s : State) : KeepsBut [.runState] s (s.setRunState v) :=
  ⟨fun p hp => by cases p <;> simp [Part.value] at hp ⊢, rfl, rfl, rfl, rfl⟩

theorem setInhibit_keepsBut (v : Bool) (s : State) : KeepsBut [.inhibit] s (s.setInhibit v) :=
  ⟨fun p hp => by cases p <;> simp [Part.value] at hp ⊢, rfl, rfl, rfl, rfl⟩

/-- The count of free values is no part. -/
theorem setDraws_keepsBut (v : Nat) (s : State) : KeepsBut [] s (s.setDraws v) :=
  ⟨fun p _ => by cases p <;> rfl, rfl, rfl, rfl, rfl⟩

theorem setD_keepsBut (v : Word) (s : State) : KeepsBut [.a, .b] s (s.setD v) :=
  (setA_keepsBut (hi v) s).trans (setB_keepsBut (lo v) _)

/-! ## The flags a new CCR writes (10_state.md R49) -/

/-- A new CCR writes the flags in which it differs. -/
theorem setCcr_keepsBut {new : Byte}
    (hS : .flagS ∈ written ∨ flagS new = flagS s.ccr) (hX : .flagX ∈ written ∨ flagX new = flagX s.ccr)
    (hH : .flagH ∈ written ∨ flagH new = flagH s.ccr) (hI : .flagI ∈ written ∨ flagI new = flagI s.ccr)
    (hN : .flagN ∈ written ∨ flagN new = flagN s.ccr) (hZ : .flagZ ∈ written ∨ flagZ new = flagZ s.ccr)
    (hV : .flagV ∈ written ∨ flagV new = flagV s.ccr) (hC : .flagC ∈ written ∨ flagC new = flagC s.ccr) :
    KeepsBut written s (s.setCcr new) := by
  refine ⟨fun p hp => ?_, rfl, rfl, rfl, rfl⟩
  have hflag {q : Part} {f : Byte → Bool} (h : q ∈ written ∨ f new = f s.ccr) (hq : q ∉ written) :
      (f new).toNat = (f s.ccr).toNat := congrArg Bool.toNat (h.resolve_left hq)
  cases p with
  | flagS => exact hflag hS hp
  | flagX => exact hflag hX hp
  | flagH => exact hflag hH hp
  | flagI => exact hflag hI hp
  | flagN => exact hflag hN hp
  | flagZ => exact hflag hZ hp
  | flagV => exact hflag hV hp
  | flagC => exact hflag hC hp
  | a | b | x | y | sp | pc | runState | inhibit => rfl

/-- N and Z of a byte, V and C: sums without H, differences, shifts, TST. -/
theorem setCcr_nzvc8_keepsBut (s : State) (r : Byte) (v c : Bool) :
    KeepsBut [.flagN, .flagZ, .flagV, .flagC] s (s.setCcr (nzvc8 s.ccr r v c)) := by
  apply setCcr_keepsBut <;> simp

/-- H, then N, Z, V and C: 8-bit sums. -/
theorem setCcr_putH_nzvc8_keepsBut (s : State) (h : Bool) (r : Byte) (v c : Bool) :
    KeepsBut [.flagH, .flagN, .flagZ, .flagV, .flagC] s (s.setCcr (nzvc8 (putH s.ccr h) r v c)) := by
  apply setCcr_keepsBut <;> simp

theorem setCcr_nzvc16_keepsBut (s : State) (r : Word) (v c : Bool) :
    KeepsBut [.flagN, .flagZ, .flagV, .flagC] s (s.setCcr (nzvc16 s.ccr r v c)) := by
  apply setCcr_keepsBut <;> simp

/-- N and Z of a byte, and V: loads, stores, logic, INC and DEC. -/
theorem setCcr_nzv8_keepsBut (s : State) (r : Byte) (v : Bool) :
    KeepsBut [.flagN, .flagZ, .flagV] s (s.setCcr (putV (nz8 s.ccr r) v)) := by
  apply setCcr_keepsBut <;> simp

theorem setCcr_nzv16_keepsBut (s : State) (r : Word) (v : Bool) :
    KeepsBut [.flagN, .flagZ, .flagV] s (s.setCcr (putV (nz16 s.ccr r) v)) := by
  apply setCcr_keepsBut <;> simp

theorem setCcr_clrOp_keepsBut (s : State) (m : Byte) :
    KeepsBut [.flagN, .flagZ, .flagV, .flagC] s (s.setCcr (clrOp s.ccr m).2) := by
  apply setCcr_keepsBut <;> simp [clrOp]

/-- Z, V and C: the divisions. -/
theorem setCcr_zvc_keepsBut (s : State) (z v c : Bool) :
    KeepsBut [.flagZ, .flagV, .flagC] s (s.setCcr (putC (putV (putZ s.ccr z) v) c)) := by
  apply setCcr_keepsBut <;> simp

theorem setCcr_putZ_keepsBut (s : State) (on : Bool) : KeepsBut [.flagZ] s (s.setCcr (putZ s.ccr on)) := by
  apply setCcr_keepsBut <;> simp

theorem setCcr_putC_keepsBut (s : State) (on : Bool) : KeepsBut [.flagC] s (s.setCcr (putC s.ccr on)) := by
  apply setCcr_keepsBut <;> simp

theorem setCcr_putV_keepsBut (s : State) (on : Bool) : KeepsBut [.flagV] s (s.setCcr (putV s.ccr on)) := by
  apply setCcr_keepsBut <;> simp

theorem setCcr_putI_keepsBut (s : State) (on : Bool) : KeepsBut [.flagI] s (s.setCcr (putI s.ccr on)) := by
  apply setCcr_keepsBut <;> simp

/-- A whole CCR loaded: every flag. -/
theorem setCcr_all_keepsBut (s : State) (new : Byte) :
    KeepsBut [.flagS, .flagX, .flagH, .flagI, .flagN, .flagZ, .flagV, .flagC] s (s.setCcr new) := by
  apply setCcr_keepsBut <;> simp

/-! ## Memory and the stack -/

theorem readByte_keepsBut (a : Word) (s : State) : KeepsBut [] s (readByte a s).2 :=
  ⟨fun p _ => by cases p <;> simp [Part.value], by simp, by simp, by simp, by simp⟩

theorem readWord_keepsBut (a : Word) (s : State) : KeepsBut [] s (readWord a s).2 :=
  (readByte_keepsBut a s).trans (readByte_keepsBut _ _)

theorem writeByte_keepsBut (a : Word) (v : Byte) (s : State) : KeepsBut [] s (writeByte a v s) :=
  ⟨fun p _ => by cases p <;> simp [Part.value], by simp, by simp, by simp, by simp⟩

theorem writeWord_keepsBut (a v : Word) (s : State) : KeepsBut [] s (writeWord a v s) :=
  (writeByte_keepsBut a _ s).trans (writeByte_keepsBut _ _ _)

theorem readSrc8_keepsBut (src : Src8) (s : State) : KeepsBut [] s (readSrc8 src s).2 := by
  cases src with
  | imm => exact .refl s
  | mem => exact readByte_keepsBut _ s

theorem readSrc16_keepsBut (src : Src16) (s : State) : KeepsBut [] s (readSrc16 src s).2 := by
  cases src with
  | imm => exact .refl s
  | mem => exact readWord_keepsBut _ s

theorem push8_keepsBut (v : Byte) (s : State) : KeepsBut [.sp] s (push8 v s) :=
  (writeByte_keepsBut s.sp v s).trans (setSp_keepsBut _ _)

theorem pull8_keepsBut (s : State) : KeepsBut [.sp] s (pull8 s).2 :=
  (setSp_keepsBut _ s).trans (readByte_keepsBut _ _)

theorem push16_keepsBut (v : Word) (s : State) : KeepsBut [.sp] s (push16 v s) :=
  ((push8_keepsBut (lo v) s).trans (push8_keepsBut (hi v) _)).mono (by simp)

theorem pull16_keepsBut (s : State) : KeepsBut [.sp] s (pull16 s).2 :=
  ((pull8_keepsBut s).trans (pull8_keepsBut _)).mono (by simp)

theorem pushContext_keepsBut (ret : Word) (s : State) : KeepsBut [.sp] s (pushContext ret s) :=
  ⟨fun p hp => by cases p <;> simp [Part.value] at hp ⊢, by simp, by simp, by simp, by simp⟩

/-! ## Exceptions, branches and calls -/

/-- An entry other than XIRQ's leaves X as it is (60_exceptions.md R506, R510). -/
theorem takeVector_keepsBut {c : Cause} (hc : setsX c = false) (s : State) :
    KeepsBut [.pc, .flagI] s (takeVector c s) := by
  obtain ⟨-, hX, -, ⟨hparts, hrest⟩, -⟩ := takeVector_taken c s
  rw [hc, Bool.or_false] at hX
  refine ⟨fun p hp => ?_, hrest⟩
  by_cases hpX : p = .flagX
  · subst hpX
    exact congrArg Bool.toNat hX
  · exact hparts p (by simp_all)

theorem enterInterrupt_keepsBut {c : Cause} (hc : setsX c = false) (ret : Word) (s : State) :
    KeepsBut [.sp, .pc, .flagI] s (enterInterrupt c ret s) :=
  (pushContext_keepsBut ret s).trans (takeVector_keepsBut hc _)

/-- RTI writes every register and flag, and neither the run state nor the inhibit (45_system.md R460). -/
theorem returnFromInterrupt_keepsBut (s : State) : KeepsBut (writtenParts .rti) s (returnFromInterrupt s) :=
  ⟨fun p hp => by cases p <;> simp [Part.value, writtenParts, returnFromInterrupt] at hp ⊢,
    by simp [returnFromInterrupt], by simp [returnFromInterrupt], by simp [returnFromInterrupt],
    by simp [returnFromInterrupt]⟩

theorem branchIf_keepsBut (cond : Bool) (rr : Byte) (s : State) : KeepsBut [.pc] s (branchIf cond rr s) :=
  (branchIf_branches cond rr s).2.1

theorem call_keepsBut (target : Word) (s : State) : KeepsBut [.sp, .pc] s (call target s) :=
  (push16_keepsBut s.pc s).trans (setPc_keepsBut target _)

theorem setCcrInhibiting_keepsBut {new : Byte} (h : KeepsBut written s (s.setCcr new)) :
    KeepsBut (written ++ [.inhibit]) s (setCcrInhibiting new s) := by
  rw [setCcrInhibiting_eq]
  exact h.trans (setInhibit_keepsBut _ _)

/-! ## The shapes of the arithmetic and logic instructions -/

/-- The part an accumulator is. -/
def accPart : Acc → Part
  | .a => .a
  | .b => .b

/-- The parts a 16-bit register is (10_state.md R31). -/
def reg16Parts : Reg16 → List Part
  | .d => [.a, .b]
  | .x => [.x]
  | .y => [.y]
  | .sp => [.sp]

theorem setAcc_keepsBut (k : Acc) (v : Byte) (s : State) : KeepsBut [accPart k] s (setAcc k v s) := by
  cases k with
  | a => exact setA_keepsBut v s
  | b => exact setB_keepsBut v s

theorem setReg16_keepsBut (k : Reg16) (v : Word) (s : State) : KeepsBut (reg16Parts k) s (setReg16 k v s) := by
  cases k with
  | d => exact setD_keepsBut v s
  | x => exact setX_keepsBut v s
  | y => exact setY_keepsBut v s
  | sp => exact setSp_keepsBut v s

/-- An accumulator and a CCR written, in either order. -/
theorem setAcc_setCcr_keepsBut {new : Byte} (h : KeepsBut written s (s.setCcr new)) (k : Acc) (v : Byte) :
    KeepsBut (accPart k :: written) s ((setAcc k v s).setCcr new) := by
  have hcomm : (setAcc k v s).setCcr new = setAcc k v (s.setCcr new) := by cases k <;> rfl
  rw [hcomm]
  exact (h.trans (setAcc_keepsBut k v _)).mono (by simp)

/-- A 16-bit register and a CCR written, in either order. -/
theorem setReg16_setCcr_keepsBut {new : Byte} (h : KeepsBut written s (s.setCcr new)) (k : Reg16) (v : Word) :
    KeepsBut (reg16Parts k ++ written) s ((setReg16 k v s).setCcr new) := by
  have hcomm : (setReg16 k v s).setCcr new = setReg16 k v (s.setCcr new) := by cases k <;> rfl
  rw [hcomm]
  exact (h.trans (setReg16_keepsBut k v _)).mono (by simp)

section
variable {flags : List Part}

theorem accOp_keepsBut {op : Byte → Byte → Byte → Byte × Byte}
    (hop : ∀ t r m, KeepsBut flags t (t.setCcr (op t.ccr r m).2)) (k : Acc) (src : Src8) (s : State) :
    KeepsBut (accPart k :: flags) s (accOp op k src s) :=
  (readSrc8_keepsBut src s).trans (setAcc_setCcr_keepsBut (hop _ _ _) k _)

theorem accTest_keepsBut {op : Byte → Byte → Byte → Byte × Byte}
    (hop : ∀ t r m, KeepsBut flags t (t.setCcr (op t.ccr r m).2)) (k : Acc) (src : Src8) (s : State) :
    KeepsBut flags s (accTest op k src s) :=
  (readSrc8_keepsBut src s).trans (hop _ _ _)

theorem wordOp_keepsBut {op : Byte → Word → Word → Word × Byte}
    (hop : ∀ t r m, KeepsBut flags t (t.setCcr (op t.ccr r m).2)) (k : Reg16) (src : Src16) (s : State) :
    KeepsBut (reg16Parts k ++ flags) s (wordOp op k src s) :=
  (readSrc16_keepsBut src s).trans (setReg16_setCcr_keepsBut (hop _ _ _) k _)

theorem wordTest_keepsBut {op : Byte → Word → Word → Word × Byte}
    (hop : ∀ t r m, KeepsBut flags t (t.setCcr (op t.ccr r m).2)) (k : Reg16) (src : Src16) (s : State) :
    KeepsBut flags s (wordTest op k src s) :=
  (readSrc16_keepsBut src s).trans (hop _ _ _)

theorem accUnary_keepsBut {op : Byte → Byte → Byte × Byte}
    (hop : ∀ t m, KeepsBut flags t (t.setCcr (op t.ccr m).2)) (k : Acc) (s : State) :
    KeepsBut (accPart k :: flags) s (accUnary op k s) :=
  setAcc_setCcr_keepsBut (hop s _) k _

theorem memUnary_keepsBut {op : Byte → Byte → Byte × Byte}
    (hop : ∀ t m, KeepsBut flags t (t.setCcr (op t.ccr m).2)) (m : Mem) (s : State) :
    KeepsBut flags s (memUnary op m s) :=
  (((readByte_keepsBut (effAddr m s) s).trans (hop _ _)).trans (writeByte_keepsBut _ _ _)).mono (by simp)

end

theorem storeAcc_keepsBut (k : Acc) (m : Mem) (s : State) :
    KeepsBut [.flagN, .flagZ, .flagV] s (storeAcc k m s) :=
  (setCcr_nzv8_keepsBut s _ _).trans (writeByte_keepsBut _ _ _)

theorem storeReg16_keepsBut (k : Reg16) (m : Mem) (s : State) :
    KeepsBut [.flagN, .flagZ, .flagV] s (storeReg16 k m s) :=
  (setCcr_nzv16_keepsBut s _ _).trans (writeWord_keepsBut _ _ _)

/-- A division writes D, X and the flags its operation writes. -/
theorem divideInto_keepsBut {o : Division} (ho : KeepsBut written s (s.setCcr o.ccr)) (free : Word) :
    KeepsBut ([.a, .b, .x] ++ written) s (divideInto free o s) := by
  have hquotient := setReg16_setCcr_keepsBut ho .x o.quotient
  rw [divideInto_eq]
  cases o.remainder with
  | some r => exact (hquotient.trans (setD_keepsBut r _)).mono (by grind [reg16Parts])
  | none =>
    exact ((hquotient.trans (setD_keepsBut free _)).trans (setDraws_keepsBut _ _)).mono (by grind [reg16Parts])

/-- STOP, with S = 1 a NOP (45_system.md R461). -/
theorem stop_keepsBut (s : State) :
    KeepsBut [.runState] s (if flagS s.ccr then s else s.setRunState .stopped) := by
  split
  · exact (KeepsBut.refl s).mono (by simp)
  · exact setRunState_keepsBut .stopped s

/-- The one next state of an illegal opcode is the trap's (60_exceptions.md R503). -/
theorem eq_of_raiseIllegal_next {addr : Word} (h : raiseIllegal addr s = .next t) :
    t = enterInterrupt .illegalOpcode addr s := by
  unfold raiseIllegal at h
  split at h
  · exact (Host.Outcome.next.inj h).symm
  · exact nomatch h

/-- The one next state of TEST is the trap's, with TEST's own address (46_absent_from_source.md R480). -/
theorem eq_of_execTest_next (h : exec .test s = .next t) : t = enterInterrupt .illegalOpcode (s.pc - 1) s := by
  simp only [exec, execTest] at h
  split at h
  · cases h
  · exact eq_of_raiseIllegal_next h

/-! ## Every instruction -/

/-- What an instruction writes is what the tables list: each by the operation that is its meaning. -/
theorem exec_keepsBut {i : Instr} {s t : State} (h : exec i s = .next t) : KeepsBut (writtenParts i) s t := by
  cases i with
  -- Two operands
  | ldaa src | anda src | eora src | oraa src =>
    exact .of_next h (accOp_keepsBut (fun t _ _ => setCcr_nzv8_keepsBut t _ false) .a src s)
  | ldab src | andb src | eorb src | orab src =>
    exact .of_next h (accOp_keepsBut (fun t _ _ => setCcr_nzv8_keepsBut t _ false) .b src s)
  | adca src | adda src =>
    exact .of_next h (accOp_keepsBut (fun t _ _ => setCcr_putH_nzvc8_keepsBut t _ _ _ _) .a src s)
  | adcb src | addb src =>
    exact .of_next h (accOp_keepsBut (fun t _ _ => setCcr_putH_nzvc8_keepsBut t _ _ _ _) .b src s)
  | sbca src | suba src =>
    exact .of_next h (accOp_keepsBut (fun t _ _ => setCcr_nzvc8_keepsBut t _ _ _) .a src s)
  | sbcb src | subb src =>
    exact .of_next h (accOp_keepsBut (fun t _ _ => setCcr_nzvc8_keepsBut t _ _ _) .b src s)
  | cmpa src | cmpb src => exact .of_next h (accTest_keepsBut (fun t _ _ => setCcr_nzvc8_keepsBut t _ _ _) _ src s)
  | bita src | bitb src => exact .of_next h (accTest_keepsBut (fun t _ _ => setCcr_nzv8_keepsBut t _ false) _ src s)
  | aba => exact .of_next h (setAcc_setCcr_keepsBut (setCcr_putH_nzvc8_keepsBut s _ _ _ _) .a _)
  | sba => exact .of_next h (setAcc_setCcr_keepsBut (setCcr_nzvc8_keepsBut s _ _ _) .a _)
  | cba => exact .of_next h (setCcr_nzvc8_keepsBut s _ _ _)
  | ldd src => exact .of_next h (wordOp_keepsBut (fun t _ _ => setCcr_nzv16_keepsBut t _ false) .d src s)
  | lds src => exact .of_next h (wordOp_keepsBut (fun t _ _ => setCcr_nzv16_keepsBut t _ false) .sp src s)
  | ldx src => exact .of_next h (wordOp_keepsBut (fun t _ _ => setCcr_nzv16_keepsBut t _ false) .x src s)
  | ldy src => exact .of_next h (wordOp_keepsBut (fun t _ _ => setCcr_nzv16_keepsBut t _ false) .y src s)
  | addd src | subd src =>
    exact .of_next h (wordOp_keepsBut (fun t _ _ => setCcr_nzvc16_keepsBut t _ _ _) .d src s)
  | cpd src | cpx src | cpy src =>
    exact .of_next h (wordTest_keepsBut (fun t _ _ => setCcr_nzvc16_keepsBut t _ _ _) _ src s)
  -- One operand
  | inca | deca => exact .of_next h (accUnary_keepsBut (fun t _ => setCcr_nzv8_keepsBut t _ _) .a s)
  | incb | decb => exact .of_next h (accUnary_keepsBut (fun t _ => setCcr_nzv8_keepsBut t _ _) .b s)
  | coma => exact .of_next h (accUnary_keepsBut (fun t _ => setCcr_nzvc8_keepsBut t _ false true) .a s)
  | comb => exact .of_next h (accUnary_keepsBut (fun t _ => setCcr_nzvc8_keepsBut t _ false true) .b s)
  | nega | asla | lsla | asra | lsra | rola | rora =>
    exact .of_next h (accUnary_keepsBut (fun t _ => setCcr_nzvc8_keepsBut t _ _ _) .a s)
  | negb | aslb | lslb | asrb | lsrb | rolb | rorb =>
    exact .of_next h (accUnary_keepsBut (fun t _ => setCcr_nzvc8_keepsBut t _ _ _) .b s)
  | clra => exact .of_next h (accUnary_keepsBut setCcr_clrOp_keepsBut .a s)
  | clrb => exact .of_next h (accUnary_keepsBut setCcr_clrOp_keepsBut .b s)
  | asld | lsld | lsrd =>
    exact .of_next h (setReg16_setCcr_keepsBut (setCcr_nzvc16_keepsBut s _ _ _) .d _)
  | bset m mm | bclr m mm =>
    exact .of_next h (memUnary_keepsBut (fun t _ => setCcr_nzv8_keepsBut t _ false) m.toMem s)
  | inc m | dec m =>
    exact .of_next h (memUnary_keepsBut (fun t _ => setCcr_nzv8_keepsBut t _ _) m.toMem s)
  | com m => exact .of_next h (memUnary_keepsBut (fun t _ => setCcr_nzvc8_keepsBut t _ false true) m.toMem s)
  | neg m | asl m | lsl m | asr m | lsr m | rol m | ror m =>
    exact .of_next h (memUnary_keepsBut (fun t _ => setCcr_nzvc8_keepsBut t _ _ _) m.toMem s)
  | clr m => exact .of_next h (memUnary_keepsBut setCcr_clrOp_keepsBut m.toMem s)
  | tst m => exact .of_next h ((readByte_keepsBut _ s).trans (setCcr_nzvc8_keepsBut _ _ _ _))
  | tsta | tstb => exact .of_next h (setCcr_nzvc8_keepsBut s _ _ _)
  -- Stores, the stack, transfers
  | staa m | stab m => exact .of_next h (storeAcc_keepsBut _ m s)
  | std m | sts m | stx m | sty m => exact .of_next h (storeReg16_keepsBut _ m s)
  | psha | pshb => exact .of_next h (push8_keepsBut _ s)
  | pshx | pshy => exact .of_next h (push16_keepsBut _ s)
  | pula => exact .of_next h (((pull8_keepsBut s).trans (setA_keepsBut _ _)).mono (by simp [writtenParts]))
  | pulb => exact .of_next h (((pull8_keepsBut s).trans (setB_keepsBut _ _)).mono (by simp [writtenParts]))
  | pulx => exact .of_next h (((pull16_keepsBut s).trans (setX_keepsBut _ _)).mono (by simp [writtenParts]))
  | puly => exact .of_next h (((pull16_keepsBut s).trans (setY_keepsBut _ _)).mono (by simp [writtenParts]))
  | tab => exact .of_next h (setAcc_setCcr_keepsBut (setCcr_nzv8_keepsBut s _ _) .b _)
  | tba => exact .of_next h (setAcc_setCcr_keepsBut (setCcr_nzv8_keepsBut s _ _) .a _)
  | tpa => exact .of_next h (setA_keepsBut _ s)
  | tap => exact .of_next h (setCcrInhibiting_keepsBut (setCcr_all_keepsBut s _))
  | xgdx => exact .of_next h (((setX_keepsBut _ s).trans (setD_keepsBut _ _)).mono (by simp [writtenParts]))
  | xgdy => exact .of_next h (((setY_keepsBut _ s).trans (setD_keepsBut _ _)).mono (by simp [writtenParts]))
  | tys | txs | ins | des => exact .of_next h (setSp_keepsBut _ s)
  | tsx | abx => exact .of_next h (setX_keepsBut _ s)
  | tsy | aby => exact .of_next h (setY_keepsBut _ s)
  | inx | dex => exact .of_next h (setReg16_setCcr_keepsBut (setCcr_putZ_keepsBut s _) .x _)
  | iny | dey => exact .of_next h (setReg16_setCcr_keepsBut (setCcr_putZ_keepsBut s _) .y _)
  -- Multiply, divide, decimal adjust
  | mul => exact .of_next h (setReg16_setCcr_keepsBut (setCcr_putC_keepsBut s _) .d _)
  | fdiv | idiv => exact .of_next h (divideInto_keepsBut (setCcr_zvc_keepsBut s _ _ _) _)
  | daa =>
    exact .of_next h ((setAcc_setCcr_keepsBut (setCcr_nzvc8_keepsBut s _ _ _) .a _).trans (setDraws_keepsBut _ _))
  -- Flags
  | clc | sec => exact .of_next h (setCcr_putC_keepsBut s _)
  | clv | sev => exact .of_next h (setCcr_putV_keepsBut s _)
  | sei => exact .of_next h (setCcr_putI_keepsBut s _)
  | cli => exact .of_next h (setCcrInhibiting_keepsBut (setCcr_putI_keepsBut s _))
  -- Branches, jumps and calls
  | bcc rr | bcs rr | beq rr | bge rr | bgt rr | bhi rr | bhs rr | ble rr | blo rr | bls rr | blt rr | bmi rr | bne rr
  | bpl rr | bvc rr | bvs rr => exact .of_next h (branchIf_keepsBut _ rr s)
  | brclr m mm rr | brset m mm rr =>
    exact .of_next h ((readByte_keepsBut (effAddr m.toMem s) s).trans (branchIf_keepsBut _ rr _))
  | bra rr | jmp m => exact .of_next h (setPc_keepsBut _ s)
  | brn rr | nop => exact .of_next h (.refl s)
  | bsr rr | jsr m => exact .of_next h (call_keepsBut _ s)
  | rts => exact .of_next h ((pull16_keepsBut s).trans (setPc_keepsBut _ _))
  -- System
  | rti => exact .of_next h (returnFromInterrupt_keepsBut s)
  | stop => exact .of_next h (stop_keepsBut s)
  | swi => exact .of_next h (enterInterrupt_keepsBut rfl _ s)
  | wai => exact .of_next h ((pushContext_keepsBut _ s).trans (setRunState_keepsBut _ _))
  | test =>
    obtain rfl := eq_of_execTest_next h
    exact enterInterrupt_keepsBut rfl _ s

/-- Settles O54: what each instruction's meaning keeps. -/
theorem partsWrittenAsTabled : Obligations.PartsWrittenAsTabled := fun _ _ _ h => exec_keepsBut h

end Sys2Proof.Vocabulary

/-! What can set X: neither an instruction, nor a fetch, nor an entry to another exception than XIRQ (10_state.md R47;
60_exceptions.md R506). -/

namespace Sys2Proof.Machine

open Sys2Proof.Vocabulary

variable {s t u : State}

/-! ## A fetch moves PC and no other part (00_scope.md R13) -/

/-- The state a fetch ends in. -/
def Fetched.state : Fetched → State
  | .instr _ s => s
  | .illegal s => s

theorem fetch8_keepsBut (s : State) : KeepsBut [.pc] s (fetch8 s).2 :=
  (readByte_keepsBut s.pc s).trans (setPc_keepsBut _ _)

theorem fetchOperands_keepsBut (tmpl : Template) (s : State) : KeepsBut [.pc] s (fetchOperands tmpl s).state := by
  have hone := fetch8_keepsBut s
  have htwo := hone.trans (fetch8_keepsBut _)
  cases tmpl with
  | none => exact (KeepsBut.refl s).mono (by simp)
  | one => exact hone
  | two => exact htwo.mono (by simp)
  | three => exact (htwo.trans (fetch8_keepsBut _)).mono (by simp)

theorem fetchCell_keepsBut (p : Page) (op : Byte) (s : State) : KeepsBut [.pc] s (fetchCell p op s).state := by
  unfold fetchCell
  split
  · exact fetchOperands_keepsBut _ s
  · exact (KeepsBut.refl s).mono (by simp)

theorem fetchInstr_keepsBut (s : State) : KeepsBut [.pc] s (fetchInstr s).state := by
  have hfirst := fetch8_keepsBut s
  unfold fetchInstr
  dsimp only
  split
  · exact (hfirst.trans (fetchCell_keepsBut _ _ _)).mono (by simp)
  · exact ((hfirst.trans (fetch8_keepsBut _)).trans (fetchCell_keepsBut _ _ _)).mono (by simp)

/-! ## X under an operation -/

/-- An operation that does not write X leaves it. -/
theorem flagX_eq_of_keepsBut {written : List Part} (h : KeepsBut written s t) (hX : .flagX ∉ written) :
    flagX t.ccr = flagX s.ccr :=
  (by decide : ∀ x y : Bool, x.toNat = y.toNat → x = y) _ _ (h.1 .flagX hX)

/-- Only the loads of the whole CCR list X (10_state.md R47, R49). -/
theorem flagX_mem_writtenParts {i : Instr} (h : .flagX ∈ writtenParts i) : i = .tap ∨ i = .rti := by
  cases i <;> simp [writtenParts] at h ⊢

theorem flagX_returnFromInterrupt (h : flagX (returnFromInterrupt s).ccr = true) : flagX s.ccr = true := by
  obtain ⟨u, c, b, a, xh, xl, yh, yl, ph, pl, -, heq⟩ := returnFromInterrupt_eq s
  rw [heq] at h
  simp at h
  exact h.1

/-- No instruction sets X: TAP and RTI take it from 1 to 0 at most (10_state.md R47). -/
theorem flagX_of_exec {i : Instr} (h : exec i s = .next t) (hX : flagX t.ccr = true) : flagX s.ccr = true := by
  by_cases hmem : Part.flagX ∈ writtenParts i
  · rcases flagX_mem_writtenParts hmem with rfl | rfl
    · obtain rfl := (Host.Outcome.next.inj h).symm
      rw [setCcrInhibiting_eq] at hX
      simp at hX
      exact hX.1
    · obtain rfl := (Host.Outcome.next.inj h).symm
      exact flagX_returnFromInterrupt hX
  · rwa [flagX_eq_of_keepsBut (exec_keepsBut h) hmem] at hX

/-- The fetch leaves X. -/
theorem flagX_of_fetchInstr {v : State} (h : (fetchInstr s).state = v) : flagX v.ccr = flagX s.ccr :=
  flagX_eq_of_keepsBut (h ▸ fetchInstr_keepsBut s) (by simp)

/-- The entry to another exception than XIRQ leaves X (60_exceptions.md R506). -/
theorem flagX_enterInterrupt {c : Cause} (hc : setsX c = false) (ret : Word) (s : State) :
    flagX (enterInterrupt c ret s).ccr = flagX s.ccr :=
  flagX_eq_of_keepsBut (enterInterrupt_keepsBut hc ret s) (by simp)

/-! ## The entry to XIRQ -/

/-- A source of IntSources that is requested. -/
theorem mem_requested {q : IntSource} : q ∈ requested s ↔ q ∈ s.params.intSources ∧ q.name ∈ s.pending := by
  simp [requested]

/-- t is a sampled state u after the entry to a requested XIRQ, whole or after WAI (60_exceptions.md R506,
R510). -/
def EntersXirq (u t : State) : Prop :=
  ∃ q p, q ∈ u.params.intSources ∧ q.name = .xirq ∧ .xirq ∈ u.pending ∧
    (p = u.setRunState .running ∨ p = pushContext u.pc (u.setRunState .running)) ∧ VectorTaken q.vector true p t

/-- A vector taken for a requested source sets X only for XIRQ. -/
theorem entersXirq_of_takeVector {q : IntSource} {p : State} (hq : q ∈ requested u)
    (hp : p = u.setRunState .running ∨ p = pushContext u.pc (u.setRunState .running))
    (hclear : flagX u.ccr = false) (hset : flagX (takeVector (.source q) p).ccr = true) :
    EntersXirq u (takeVector (.source q) p) := by
  obtain ⟨hmem, hpending⟩ := mem_requested.1 hq
  have htaken := takeVector_taken (.source q) p
  have hccr : p.ccr = u.ccr := by rcases hp with rfl | rfl <;> simp
  have hsets : setsX (.source q) = true := by
    obtain ⟨-, hX, -⟩ := htaken
    rw [hset, hccr, hclear, Bool.false_or] at hX
    exact hX.symm
  have hname : q.name = .xirq := by simpa [setsX] using hsets
  rw [hsets] at htaken
  exact ⟨q, p, hmem, hname, hname ▸ hpending, hp, htaken⟩

theorem entersXirq_of_enterInterrupt {q : IntSource} (hq : q ∈ requested u) (hclear : flagX u.ccr = false)
    (hset : flagX (enterInterrupt (.source q) u.pc (u.setRunState .running)).ccr = true) :
    EntersXirq u (enterInterrupt (.source q) u.pc (u.setRunState .running)) :=
  entersXirq_of_takeVector hq (.inr rfl) hclear hset

/-! ## What a suspended step can do -/

/-- The source served is one of those given. -/
theorem highest_mem {qs : List IntSource} {q : IntSource} (h : highest qs = some q) : q ∈ qs := (highest_first h).1

theorem mem_requested_of_mem_unmasked {q : IntSource} (h : q ∈ unmasked s) : q ∈ requested s :=
  List.mem_of_mem_filter h

/-- All a step in the stopped state can do (45_system.md R462). -/
theorem stoppedStep_cases (u : State) :
    stoppedStep u = u ∨ stoppedStep u = u.setRunState .running ∨
    ∃ q ∈ requested u, stoppedStep u = enterInterrupt (.source q) u.pc (u.setRunState .running) := by
  unfold stoppedStep
  split
  · next q hq =>
    split
    · exact .inr (.inl rfl)
    · exact .inr (.inr ⟨q, List.mem_of_find?_eq_some hq, rfl⟩)
  · split
    · next q hq =>
      have hmem := List.mem_of_mem_filter (highest_mem hq)
      exact .inr (.inr ⟨q, mem_requested_of_mem_unmasked hmem, rfl⟩)
    · exact .inl rfl

/-- All a step in the waiting state can do (45_system.md R466). -/
theorem waitingStep_cases (u : State) :
    waitingStep u = u ∨ ∃ q ∈ requested u, waitingStep u = takeVector (.source q) (u.setRunState .running) := by
  unfold waitingStep
  split
  · next q hq => exact .inr ⟨q, mem_requested_of_mem_unmasked (highest_mem hq), rfl⟩
  · exact .inl rfl

theorem entersXirq_of_stoppedStep (hclear : flagX u.ccr = false) (hset : flagX (stoppedStep u).ccr = true) :
    EntersXirq u (stoppedStep u) := by
  rcases stoppedStep_cases u with heq | heq | ⟨q, hq, heq⟩ <;> rw [heq] at hset ⊢
  · simp [hclear] at hset
  · simp [hclear] at hset
  · exact entersXirq_of_enterInterrupt hq hclear hset

theorem entersXirq_of_waitingStep (hclear : flagX u.ccr = false) (hset : flagX (waitingStep u).ccr = true) :
    EntersXirq u (waitingStep u) := by
  rcases waitingStep_cases u with heq | ⟨q, hq, heq⟩ <;> rw [heq] at hset ⊢
  · simp [hclear] at hset
  · exact entersXirq_of_takeVector hq (.inl rfl) hclear hset

/-! ## The step -/

/-- The running state set where it stands. -/
theorem setRunState_running (h : s.runState = .running) : s.setRunState .running = s := by
  rw [← h]
  rfl

/-- The environment's input is no part of the CPU (10_state.md R52). -/
theorem sample_sampled (s : State) : Sampled s (sample s) := by
  rw [sample_eq]
  exact ⟨fun p => by cases p <;> rfl, rfl, Wrote.nil rfl rfl rfl⟩

@[simp] theorem sample_ccr (s : State) : (sample s).ccr = s.ccr := by rw [sample_eq]; simp

@[simp] theorem sample_pc (s : State) : (sample s).pc = s.pc := by rw [sample_eq]; simp

/-- A step that takes X from 0 to 1 is a reset or the entry to XIRQ (10_state.md R47; 60_exceptions.md R506). -/
theorem entersXirq_of_step (h : step s = .next t) (hclear : flagX s.ccr = false) (hset : flagX t.ccr = true) :
    (sample s).resetReq = true ∨ EntersXirq (sample s) t := by
  have hclear' : flagX (sample s).ccr = false := by rwa [sample_ccr]
  rcases (step_cases h rfl).2 with ⟨hreset, -⟩ | ⟨-, -, rfl⟩ | ⟨-, -, rfl⟩ | ⟨-, hrun, -, q, hq, rfl⟩ |
    ⟨-, -, i, v, hfetch, hexec⟩ | ⟨-, -, v, hfetch, rfl⟩
  · exact .inl hreset
  · exact .inr (entersXirq_of_stoppedStep hclear' hset)
  · exact .inr (entersXirq_of_waitingStep hclear' hset)
  · rw [← setRunState_running hrun] at hset ⊢
    exact .inr (entersXirq_of_enterInterrupt (mem_requested_of_mem_unmasked (highest_mem hq)) hclear' hset)
  · have hfetched : flagX v.ccr = flagX (sample s).ccr := flagX_of_fetchInstr (congrArg Fetched.state hfetch)
    have hX := flagX_of_exec hexec hset
    rw [State.setInhibit_ccr, hfetched, hclear'] at hX
    cases hX
  · have hfetched : flagX v.ccr = flagX (sample s).ccr := flagX_of_fetchInstr (congrArg Fetched.state hfetch)
    rw [flagX_enterInterrupt (c := .illegalOpcode) rfl, State.setInhibit_ccr, hfetched, hclear'] at hset
    cases hset

/-- Settles O56: the cases of a step, X in each. -/
theorem xirqMaskRises : Obligations.XirqMaskRises := by
  unfold Obligations.XirqMaskRises
  intro s t h hclear hset
  simpa [EntersXirq] using entersXirq_of_step h hclear hset

end Sys2Proof.Machine

/-! A pull after a push, a return after a call (10_state.md R35, R37; 44_branch_jump.md R444); the environment's
requests (10_state.md R52) and the reset state (10_state.md R56). -/

namespace Sys2Proof.Machine

open Sys2Proof.Vocabulary

/-! ## A register written before a pull stands after it -/

section
variable (s : State)

theorem pull8_setA (v : Byte) : pull8 (s.setA v) = ((pull8 s).1, (pull8 s).2.setA v) := by
  rw [pull8_eq, pull8_eq, readByte_setA]
  rfl

theorem pull8_setB (v : Byte) : pull8 (s.setB v) = ((pull8 s).1, (pull8 s).2.setB v) := by
  rw [pull8_eq, pull8_eq, readByte_setB]
  rfl

theorem pull16_setX (v : Word) : pull16 (s.setX v) = ((pull16 s).1, (pull16 s).2.setX v) := by
  rw [pull16_eq, pull16_eq, readWord_setX]
  rfl

theorem pull16_setY (v : Word) : pull16 (s.setY v) = ((pull16 s).1, (pull16 s).2.setY v) := by
  rw [pull16_eq, pull16_eq, readWord_setY]
  rfl

theorem pull16_setPc (v : Word) : pull16 (s.setPc v) = ((pull16 s).1, (pull16 s).2.setPc v) := by
  rw [pull16_eq, pull16_eq, readWord_setPc]
  rfl

end

/-! ## On a stack in ram a pull undoes a push (10_state.md R35, R37) -/

section
variable {s : State}

theorem pull8_push8 (hwf : s.mem.wf = true) (hram : kindAt s.params s.sp = .ram) (v : Byte) :
    pull8 (push8 v s) = (v, (push8 v s).setSp s.sp) := by
  have htop : (push8 v s).sp + 1 = s.sp := by simp
  rw [pull8_eq, htop, readByte_plain (.inl (by simpa using hram)), push8_byteAt hwf, if_pos ⟨rfl, hram⟩]

/-- The word pulled is the one pushed: its low byte at the old SP, its high byte below. -/
theorem pull16_push16 (hwf : s.mem.wf = true) (hram : kindAt s.params s.sp = .ram)
    (hram' : kindAt s.params (s.sp - 1) = .ram) (v : Word) :
    pull16 (push16 v s) = (v, (push16 v s).setSp s.sp) := by
  have hlow : (push16 v s).sp + 1 = s.sp - 1 := by rw [push16_sp]; bv_omega
  have hhigh : s.sp - 1 + 1 = s.sp := by simp
  have hsp : (push16 v s).sp + 2 = s.sp := by simp
  have hne : s.sp ≠ s.sp - 1 := by bv_omega
  have hbyteLow : (push16 v s).byteAt s.sp = lo v := by
    rw [push16, push8_byteAt (push8_wf hwf _), push8_sp, if_neg fun h => hne h.1, push8_byteAt hwf,
      if_pos ⟨rfl, hram⟩]
  have hbyteHigh : (push16 v s).byteAt (s.sp - 1) = hi v := by
    rw [push16, push8_byteAt (push8_wf hwf _), push8_sp, push8_params, if_pos ⟨rfl, hram'⟩]
  rw [pull16_eq, hlow, hsp, readWord_plain (.inl (by simpa using hram')) (.inl (by simpa [hhigh] using hram)), hhigh,
    hbyteLow, hbyteHigh, cat_hi_lo]

/-- Two bytes pushed are the word of which the second is the high byte. -/
theorem push8_push8 (h l : Byte) (s : State) : push8 h (push8 l s) = push16 (cat h l) s := by
  simp [push16]

/-- RTS right after a call: PC and SP come back, and the bytes stacked stay (44_branch_jump.md R444). -/
theorem rts_call (hwf : s.mem.wf = true) (hram : kindAt s.params s.sp = .ram)
    (hram' : kindAt s.params (s.sp - 1) = .ram) (target : Word) :
    ∃ u, exec .rts (call target s) = .next u ∧ KeepsBut [] s u ∧ Wrote (pushWrites s s.pc) s u := by
  have hpull : pull16 (call target s) = (s.pc, (call target s).setSp s.sp) := by
    rw [call, pull16_setPc, pull16_push16 hwf hram hram']
    rfl
  obtain ⟨-, -, hwrote, hcall⟩ := call_called hwf target
  have hkeeps := (hcall.trans (setSp_keepsBut s.sp _)).trans (setPc_keepsBut s.pc _)
  exact ⟨((call target s).setSp s.sp).setPc s.pc, by simp [exec, execRts, hpull],
    hkeeps.of_restored (by simp [Part.value]), hwrote.congr rfl rfl rfl⟩

end

/-- Settles O13: a pull of what was pushed, past a register written between. -/
theorem stackDiscipline : Obligations.StackDiscipline := by
  unfold Obligations.StackDiscipline
  intro s hwf hram hram'
  have hbyte := pull8_push8 hwf hram
  have hword := pull16_push16 hwf hram hram'
  refine ⟨fun v => ⟨_, _, rfl, rfl, ?_⟩, fun v => ⟨_, _, rfl, rfl, ?_⟩, fun v => ⟨_, _, rfl, rfl, ?_⟩,
    fun v => ⟨_, _, rfl, rfl, ?_⟩, ⟨_, _, _, rfl, rfl, rfl, ?_⟩, fun rr => ?_, fun m => ?_⟩
  · simp [pull8_setA, hbyte]
  · simp [pull8_setB, hbyte]
  · simp [pull16_setX, hword]
  · simp [pull16_setY, hword]
  · simp [push8_push8, hword]
  · obtain ⟨u, hrts, hkeeps, hwrote⟩ := rts_call hwf hram hram' (branchTarget rr s)
    exact ⟨_, u, rfl, hrts, hkeeps, hwrote⟩
  · obtain ⟨u, hrts, hkeeps, hwrote⟩ := rts_call hwf hram hram' (effAddr m s)
    exact ⟨_, u, rfl, hrts, hkeeps, hwrote⟩

/-! ## The environment's requests and the reset state -/

/-- Settles O48: the schedule's next entry, or nothing. -/
theorem requestsSampled : Obligations.RequestsSampled := by
  unfold Obligations.RequestsSampled
  intro s
  constructor
  · intro hnone
    simp [sample, hnone]
  · intro e rest hnext
    refine ⟨?_, ?_, ?_, sample_sampled s⟩ <;> simp [sample, hnext]

/-- The invariant at reset: memory lists nothing and the inhibit is clear (20_memory.md R70; 10_state.md R53). -/
theorem reset_inv : Sys2Proof.Safety.Inv State.reset := ⟨reset_mem_wf, fun h => nomatch h⟩

/-- The default map is all ram (00_scope.md R7). -/
theorem kindAt_default (a : Word) : kindAt Params.default a = .ram := rfl

/-- Settles O59: each field of the reset state. -/
theorem resetState : Obligations.ResetState :=
  ⟨by decide, by decide, by decide, rfl, rfl, rfl, rfl, rfl, rfl, kindAt_default, rfl, rfl, rfl, fun _ => rfl,
    reset_inv⟩

end Sys2Proof.Machine

/-! What every instruction and the fetch store: memory stays canonical (20_memory.md R70) and only the bytes the
table of data accesses lists can change (R81). -/

namespace Sys2Proof.Machine

open Sys2Proof.Vocabulary

variable {ws ws' : List Word} {s s' t t' : State}

/-! ## Stores within a list of addresses -/

/-- A canonical memory stays so, and no byte outside the addresses listed changes. -/
def StoresWithin (ws : List Word) (s t : State) : Prop :=
  s.mem.wf = true → t.mem.wf = true ∧ ∀ w : Word, w ∉ ws → t.byteAt w = s.byteAt w

/-- An operation that leaves memory alone stores nothing. -/
theorem StoresWithin.of_mem_eq (h : t.mem = s.mem) : StoresWithin [] s t :=
  fun hwf => ⟨h ▸ hwf, fun w _ => by rw [State.byteAt, State.byteAt, h]⟩

theorem StoresWithin.mono (h : StoresWithin ws s t) (hsub : ws ⊆ ws') : StoresWithin ws' s t := fun hwf =>
  have ⟨hwf', hkept⟩ := h hwf
  ⟨hwf', fun w hw => hkept w fun hmem => hw (hsub hmem)⟩

/-- The bytes stored depend on the two memories alone. -/
theorem StoresWithin.congr (h : StoresWithin ws s t) (hs : s'.mem = s.mem) (ht : t'.mem = t.mem) :
    StoresWithin ws s' t' := by
  simpa [StoresWithin, State.byteAt, hs, ht] using h

/-- An instruction's one next state stores what the state computed stores. -/
theorem StoresWithin.of_next (h : (.next t : Host.Outcome State Fault Refusal) = .next t')
    (hstores : StoresWithin ws s t) : StoresWithin ws s t' := by
  injection h with h
  exact h ▸ hstores

/-- A byte at none of the addresses written is as it was. -/
theorem afterWrites_of_notMem {writes : List (Word × Byte)} {w : Word} (h : w ∉ writes.map Prod.fst) :
    afterWrites s writes w = s.byteAt w := by
  induction writes with
  | nil => rfl
  | cons write older ih =>
    rw [List.map_cons, List.mem_cons, not_or] at h
    rw [afterWrites, if_neg fun hw => h.1 hw.1, ih h.2]

/-- The writes made are the only stores. -/
theorem StoresWithin.of_wrote {writes : List (Word × Byte)} (hwf : s.mem.wf = true → t.mem.wf = true)
    (hwrote : s.mem.wf = true → Wrote writes s t) : StoresWithin (writes.map Prod.fst) s t :=
  fun h => ⟨hwf h, fun w hw => ((hwrote h).1 w).trans (afterWrites_of_notMem hw)⟩

/-! ## The operations that store -/

theorem writeByte_storesWithin (a : Word) (v : Byte) (s : State) : StoresWithin [a] s (writeByte a v s) :=
  .of_wrote (writes := [(a, v)]) (writeByte_wf · a v) (Wrote.byte · a v)

theorem writeWord_storesWithin (a v : Word) (s : State) : StoresWithin [a, a + 1] s (writeWord a v s) :=
  (StoresWithin.of_wrote (writeWord_wf · a v) (Wrote.word · a v)).mono (by simp [wordWrites])

theorem push8_storesWithin (v : Byte) (s : State) : StoresWithin [s.sp] s (push8 v s) :=
  (writeByte_storesWithin s.sp v s).congr rfl rfl

theorem push16_storesWithin (v : Word) (s : State) : StoresWithin [s.sp, s.sp - 1] s (push16 v s) :=
  (StoresWithin.of_wrote (push16_wf · v) (Wrote.push16 · v)).mono (by simp [pushWrites])

/-- The nine bytes of a context (60_exceptions.md R510), whose addresses the table lists for SWI, WAI and the
trap. -/
theorem pushContext_storesWithin (ret : Word) (s : State) :
    StoresWithin (storedAt .swi s) s (pushContext ret s) :=
  (StoresWithin.of_wrote (pushContext_wf · ret) (Wrote.context · ret)).mono (by simp [contextWrites, storedAt])

/-- The masks and the vector store nothing. -/
@[simp] theorem takeVector_mem (c : Cause) (s : State) : (takeVector c s).mem = s.mem := by
  unfold takeVector
  cases setsX c <;> simp

theorem enterInterrupt_storesWithin (c : Cause) (ret : Word) (s : State) :
    StoresWithin (storedAt .swi s) s (enterInterrupt c ret s) :=
  (pushContext_storesWithin ret s).congr rfl (takeVector_mem c _)

theorem call_storesWithin (target : Word) (s : State) : StoresWithin [s.sp, s.sp - 1] s (call target s) :=
  (push16_storesWithin s.pc s).congr rfl rfl

/-- A read, then a write at the same address (20_memory.md R76). -/
theorem memUnary_storesWithin (op : Byte → Byte → Byte × Byte) (m : Mem) (s : State) :
    StoresWithin [effAddr m s] s (memUnary op m s) :=
  (writeByte_storesWithin (effAddr m s) _ _).congr (by simp) rfl

theorem storeAcc_storesWithin (k : Acc) (m : Mem) (s : State) : StoresWithin [effAddr m s] s (storeAcc k m s) :=
  (writeByte_storesWithin (effAddr m s) (getAcc k s) s).congr rfl (by simp [storeAcc])

theorem storeReg16_storesWithin (k : Reg16) (m : Mem) (s : State) :
    StoresWithin [effAddr m s, effAddr m s + 1] s (storeReg16 k m s) :=
  (writeWord_storesWithin (effAddr m s) (getReg16 k s) s).congr rfl (by simp [storeReg16])

/-! ## The operations that store nothing -/

@[simp] theorem setAcc_mem (k : Acc) (v : Byte) (s : State) : (setAcc k v s).mem = s.mem := by cases k <;> rfl

@[simp] theorem setReg16_mem (k : Reg16) (v : Word) (s : State) : (setReg16 k v s).mem = s.mem := by
  cases k <;> rfl

theorem accOp_mem (op : Byte → Byte → Byte → Byte × Byte) (k : Acc) (src : Src8) (s : State) :
    (accOp op k src s).mem = s.mem := by simp [accOp]

theorem accTest_mem (op : Byte → Byte → Byte → Byte × Byte) (k : Acc) (src : Src8) (s : State) :
    (accTest op k src s).mem = s.mem := by simp [accTest]

theorem wordOp_mem (op : Byte → Word → Word → Word × Byte) (k : Reg16) (src : Src16) (s : State) :
    (wordOp op k src s).mem = s.mem := by simp [wordOp]

theorem wordTest_mem (op : Byte → Word → Word → Word × Byte) (k : Reg16) (src : Src16) (s : State) :
    (wordTest op k src s).mem = s.mem := by simp [wordTest]

theorem accUnary_mem (op : Byte → Byte → Byte × Byte) (k : Acc) (s : State) : (accUnary op k s).mem = s.mem := by
  simp [accUnary]

theorem divideInto_mem (free : Word) (o : Division) (s : State) : (divideInto free o s).mem = s.mem := by
  rw [divideInto_eq]
  cases o.remainder <;> rfl

theorem branchIf_mem (cond : Bool) (rr : Byte) (s : State) : (branchIf cond rr s).mem = s.mem := by
  cases cond <;> rfl

theorem setCcrInhibiting_mem (new : Byte) (s : State) : (setCcrInhibiting new s).mem = s.mem := by
  rw [setCcrInhibiting_eq]
  rfl

/-- The nine pulls store nothing (45_system.md R460). -/
theorem returnFromInterrupt_mem (s : State) : (returnFromInterrupt s).mem = s.mem := by
  simp [returnFromInterrupt]

/-! ## The fetch stores nothing (00_scope.md R13) -/

theorem fetch8_mem (s : State) : (fetch8 s).2.mem = s.mem := by simp [fetch8]

theorem fetchOperands_mem (tmpl : Template) (s : State) : (fetchOperands tmpl s).state.mem = s.mem := by
  cases tmpl <;> simp [fetchOperands, Fetched.state, fetch8_mem]

theorem fetchCell_mem (p : Page) (op : Byte) (s : State) : (fetchCell p op s).state.mem = s.mem := by
  unfold fetchCell
  split
  · exact fetchOperands_mem _ s
  · rfl

theorem fetchInstr_mem (s : State) : (fetchInstr s).state.mem = s.mem := by
  unfold fetchInstr
  dsimp only
  split <;> simp [fetchCell_mem, fetch8_mem]

/-! ## Every instruction -/

/-- What an instruction stores is what the table of data accesses lists: each by the operation that is its
meaning. -/
theorem exec_storesWithin {i : Instr} (h : exec i s = .next t) : StoresWithin (storedAt i s) s t := by
  cases i with
  -- Stores and the stack
  | staa m | stab m => exact .of_next h (storeAcc_storesWithin _ m s)
  | std m | sts m | stx m | sty m => exact .of_next h (storeReg16_storesWithin _ m s)
  | psha | pshb => exact .of_next h (push8_storesWithin _ s)
  | pshx | pshy => exact .of_next h (push16_storesWithin _ s)
  | bsr rr | jsr m => exact .of_next h (call_storesWithin _ s)
  | swi => exact .of_next h (enterInterrupt_storesWithin .swi _ s)
  | wai => exact .of_next h ((pushContext_storesWithin s.pc s).congr rfl (State.setRunState_mem _ .waiting))
  | test =>
    obtain rfl := eq_of_execTest_next h
    exact enterInterrupt_storesWithin .illegalOpcode _ s
  -- Read-modify-write
  | clr m | dec m | inc m | neg m | com m | asl m | asr m | lsl m | lsr m | rol m | ror m =>
    exact .of_next h (memUnary_storesWithin _ m.toMem s)
  | bclr m mm | bset m mm => exact .of_next h (memUnary_storesWithin _ m.toMem s)
  -- One operand or two, the result in a register or in the CCR alone
  | ldaa src | ldab src | adca src | adcb src | adda src | addb src | sbca src | sbcb src | suba src | subb src
  | anda src | andb src | eora src | eorb src | oraa src | orab src =>
    exact .of_next h (.of_mem_eq (accOp_mem _ _ src s))
  | cmpa src | cmpb src | bita src | bitb src => exact .of_next h (.of_mem_eq (accTest_mem _ _ src s))
  | ldd src | lds src | ldx src | ldy src | addd src | subd src =>
    exact .of_next h (.of_mem_eq (wordOp_mem _ _ src s))
  | cpd src | cpx src | cpy src => exact .of_next h (.of_mem_eq (wordTest_mem _ _ src s))
  | clra | clrb | deca | decb | inca | incb | nega | negb | coma | comb | asla | aslb | asra | asrb | lsla | lslb
  | lsra | lsrb | rola | rolb | rora | rorb => exact .of_next h (.of_mem_eq (accUnary_mem _ _ s))
  | fdiv | idiv => exact .of_next h (.of_mem_eq (divideInto_mem _ _ s))
  | tst m => exact .of_next h (.of_mem_eq (readByte_mem s (effAddr m.toMem s)))
  -- Pulls
  | pula | pulb => exact .of_next h (.of_mem_eq (pull8_mem s))
  | pulx | puly | rts => exact .of_next h (.of_mem_eq (pull16_mem s))
  | rti => exact .of_next h (.of_mem_eq (returnFromInterrupt_mem s))
  -- Branches
  | bcc rr | bcs rr | beq rr | bge rr | bgt rr | bhi rr | bhs rr | ble rr | blo rr | bls rr | blt rr | bmi rr | bne rr
  | bpl rr | bvc rr | bvs rr => exact .of_next h (.of_mem_eq (branchIf_mem _ rr s))
  | brclr m mm rr | brset m mm rr =>
    exact .of_next h (.of_mem_eq ((branchIf_mem _ rr _).trans (readByte_mem s (effAddr m.toMem s))))
  -- The inhibit and the run state
  | tap | cli => exact .of_next h (.of_mem_eq (setCcrInhibiting_mem _ s))
  | stop => exact .of_next h (.of_mem_eq (by split <;> rfl))
  -- Named updates alone
  | tab | tba | tpa | tys | txs | tsx | tsy | xgdx | xgdy | aba | abx | aby | sba | cba | daa | mul | des | ins | dex
  | dey | inx | iny | asld | lsld | lsrd | tsta | tstb | clc | sec | clv | sev | sei | bra rr | brn rr | nop | jmp m =>
    exact .of_next h (.of_mem_eq rfl)

/-- Settles O55: what each instruction's meaning stores. -/
theorem bytesStoredAsTabled : Obligations.BytesStoredAsTabled := by
  unfold Obligations.BytesStoredAsTabled
  intro i s t hwf h w hw
  exact (exec_storesWithin h hwf).2 w hw

end Sys2Proof.Machine

/-! The invariant under a step: memory canonical and the inhibit confined, in each of the things a step can do
(20_memory.md R70; 10_state.md R53; 70_reset_and_hazards.md R560). -/

namespace Sys2Proof.Machine

open Sys2Proof.Vocabulary Sys2Proof.Safety

variable {s t u : State} {written : List Part}

/-! ## The run state and the inhibit under an operation -/

/-- An operation that does not write the run state leaves it. -/
theorem runState_eq_of_keepsBut (h : KeepsBut written s t) (hrun : .runState ∉ written) :
    t.runState = s.runState := by
  have hvalue := h.1 .runState hrun
  revert hvalue
  cases hs : s.runState <;> cases ht : t.runState <;> simp [Part.value, hs, ht]

/-- An operation that does not write the inhibit leaves it. -/
theorem inhibit_eq_of_keepsBut (h : KeepsBut written s t) (hinhibit : .inhibit ∉ written) : t.inhibit = s.inhibit :=
  (by decide : ∀ x y : Bool, x.toNat = y.toNat → x = y) _ _ (h.1 .inhibit hinhibit)

/-- Only CLI and TAP list the inhibit (10_state.md R53). -/
theorem inhibit_mem_writtenParts {i : Instr} : .inhibit ∈ writtenParts i ↔ i = .cli ∨ i = .tap := by
  cases i <;> simp [writtenParts]

/-- The inhibit after an instruction: as it was, or set by a CLI or TAP that takes I from 1 to 0
(70_reset_and_hazards.md R560). -/
theorem exec_inhibit {i : Instr} (h : exec i s = .next t) :
    t.inhibit = (s.inhibit || (decide (i = .cli ∨ i = .tap) && (flagI s.ccr && !flagI t.ccr))) := by
  by_cases hmem : Part.inhibit ∈ writtenParts i
  · have hi := inhibit_mem_writtenParts.1 hmem
    have ⟨new, ht⟩ : ∃ new, setCcrInhibiting new s = t := by
      rcases hi with rfl | rfl <;> exact ⟨_, Host.Outcome.next.inj h⟩
    subst ht
    simp [setCcrInhibiting_eq, hi]
  · have hi := mt inhibit_mem_writtenParts.2 hmem
    simp [inhibit_eq_of_keepsBut (exec_keepsBut h) hmem, hi]

/-- CLI and TAP leave the run state. -/
theorem exec_runState_of_inhibiting {i : Instr} (hi : i = .cli ∨ i = .tap) (h : exec i s = .next t) :
    t.runState = s.runState :=
  runState_eq_of_keepsBut (exec_keepsBut h) (by rcases hi with rfl | rfl <;> simp [writtenParts])

/-- Taking a vector leaves the inhibit. -/
@[simp] theorem takeVector_inhibit (c : Cause) (s : State) : (takeVector c s).inhibit = s.inhibit := by
  obtain ⟨-, -, -, hkeeps, -⟩ := takeVector_taken c s
  exact inhibit_eq_of_keepsBut hkeeps (by simp)

@[simp] theorem enterInterrupt_inhibit (c : Cause) (ret : Word) (s : State) :
    (enterInterrupt c ret s).inhibit = s.inhibit := by simp [enterInterrupt]

/-! ## The invariant under each part of a step -/

/-- With the inhibit clear the invariant is the canonical form of memory. -/
theorem inv_of_inhibit_eq_false (hwf : s.mem.wf = true) (hclear : s.inhibit = false) : Inv s :=
  ⟨hwf, fun hset => by simp [hclear] at hset⟩

/-- In a suspended state the inhibit is clear (10_state.md R53). -/
theorem inhibit_eq_false_of_suspended (h : Inv s) (hrun : s.runState ≠ .running) : s.inhibit = false := by
  obtain ⟨-, hconfined⟩ := h
  cases hs : s.inhibit with
  | true => exact absurd (hconfined hs).1 hrun
  | false => rfl

/-- The environment's input is neither memory nor the inhibit. -/
theorem sample_inv (h : Inv s) : Inv (sample s) := by
  rw [sample_eq]
  exact h

/-- The reset sequence ends the inhibit and stores nothing (70_reset_and_hazards.md R550, R553). -/
theorem resetSequence_inv (h : Inv s) : Inv (resetSequence s) := by
  have hmem : (resetSequence s).mem = s.mem := by simp [resetSequence, drawUnknown]
  exact inv_of_inhibit_eq_false (hmem ▸ h.1) (by simp [resetSequence])

/-- An entry made with the inhibit clear (60_exceptions.md R510). -/
theorem enterInterrupt_inv (hwf : s.mem.wf = true) (hclear : s.inhibit = false) (c : Cause) (ret : Word) :
    Inv (enterInterrupt c ret s) :=
  inv_of_inhibit_eq_false (enterInterrupt_storesWithin c ret s hwf).1 (by simpa using hclear)

/-- The stopped state, which has no inhibit to keep (45_system.md R462). -/
theorem stoppedStep_inv (h : Inv s) (hrun : s.runState = .stopped) : Inv (stoppedStep s) := by
  have hclear := inhibit_eq_false_of_suspended h (by simp [hrun])
  have hwf := h.1
  rcases stoppedStep_cases s with heq | heq | ⟨q, -, heq⟩ <;> rw [heq]
  · exact h
  · exact inv_of_inhibit_eq_false hwf hclear
  · exact enterInterrupt_inv (s := s.setRunState .running) hwf hclear _ _

/-- The waiting state, which has no inhibit to keep (45_system.md R466). -/
theorem waitingStep_inv (h : Inv s) (hrun : s.runState = .waiting) : Inv (waitingStep s) := by
  have hclear := inhibit_eq_false_of_suspended h (by simp [hrun])
  have hwf := h.1
  rcases waitingStep_cases s with heq | ⟨q, -, heq⟩ <;> rw [heq]
  · exact h
  · exact inv_of_inhibit_eq_false (by simpa using hwf) (by simpa using hclear)

/-- An instruction executed with the inhibit ended: if it sets the inhibit again, I is clear and the machine still
runs (70_reset_and_hazards.md R560). -/
theorem exec_inv {i : Instr} (hwf : s.mem.wf = true) (hclear : s.inhibit = false) (hrun : s.runState = .running)
    (h : exec i s = .next t) : Inv t := by
  refine ⟨(exec_storesWithin h hwf).1, fun hset => ?_⟩
  have hinhibiting := exec_inhibit h
  rw [hset, hclear] at hinhibiting
  obtain ⟨hi, -, hI⟩ : (i = .cli ∨ i = .tap) ∧ flagI s.ccr = true ∧ flagI t.ccr = false := by
    simpa using hinhibiting
  exact ⟨(exec_runState_of_inhibiting hi h).trans hrun, hI⟩

/-- Settles O57: the invariant in each case of a step. -/
theorem invariantKept : Obligations.InvariantKept := by
  unfold Obligations.InvariantKept
  intro s t hinv h
  have hsampled := sample_inv hinv
  have hwf := hsampled.1
  rcases (step_cases h rfl).2 with ⟨-, rfl⟩ | ⟨-, hrun, rfl⟩ | ⟨-, hrun, rfl⟩ | ⟨-, -, hclear, q, -, rfl⟩ |
    ⟨-, hrun, i, v, hfetch, hexec⟩ | ⟨-, -, v, hfetch, rfl⟩
  · exact resetSequence_inv hsampled
  · exact stoppedStep_inv hsampled hrun
  · exact waitingStep_inv hsampled hrun
  · exact enterInterrupt_inv hwf hclear _ _
  · have hmem := fetchInstr_mem (sample s)
    have hkeeps := fetchInstr_keepsBut (sample s)
    rw [hfetch] at hmem hkeeps
    have hrun' := (runState_eq_of_keepsBut hkeeps (by simp)).trans hrun
    exact exec_inv (s := v.setInhibit false) (hmem ▸ hwf) rfl hrun' hexec
  · have hmem := fetchInstr_mem (sample s)
    rw [hfetch] at hmem
    exact enterInterrupt_inv (s := v.setInhibit false) (hmem ▸ hwf) rfl _ _

/-- Settles O60: memory lists nothing and the inhibit is clear. -/
theorem invariantAtReset : Obligations.InvariantAtReset := reset_inv

end Sys2Proof.Machine

/-! Which steps are refused for the map (20_memory.md R85). -/

namespace Sys2Proof.Machine

/-- Every instruction but TEST has a next state (46_absent_from_source.md R480). -/
theorem exec_eq_test_or_next (i : Instr) (s : State) : i = .test ∨ ∃ t, exec i s = .next t := by
  cases i with
  | test => exact .inl rfl
  | _ => exact .inr ⟨_, rfl⟩

/-- The illegal-opcode path traps or faults: it refuses nothing (60_exceptions.md R503). -/
theorem raiseIllegal_ne_refused (addr : Word) (s : State) (r : Refusal) : raiseIllegal addr s ≠ .refused r := by
  unfold raiseIllegal
  split <;> simp

/-- An instruction is refused only as TEST executed in test mode (46_absent_from_source.md R480). -/
theorem eq_testExecuted_of_exec_refused {i : Instr} {s : State} {r : Refusal} (h : exec i s = .refused r) :
    r = .testExecuted := by
  rcases exec_eq_test_or_next i s with rfl | ⟨t, ht⟩
  · simp only [exec, execTest] at h
    split at h
    · exact (Host.Outcome.refused.inj h).symm
    · exact absurd h (raiseIllegal_ne_refused _ _ r)
  · rw [ht] at h
    cases h

/-- Past the map, a step is refused only as an instruction is (00_scope.md R20). -/
theorem eq_testExecuted_of_sampledStep_refused {s : State} {r : Refusal} (h : sampledStep exec s = .refused r) :
    r = .testExecuted := by
  unfold sampledStep at h
  split at h
  · cases h
  · split at h
    · cases h
    · cases h
    · split at h
      · cases h
      · unfold instructionStep at h
        split at h
        · exact eq_testExecuted_of_exec_refused h
        · exact absurd h (raiseIllegal_ne_refused _ _ r)

/-- A step is refused for the map exactly when the map is one that 20_memory.md R85 refuses. -/
theorem step_eq_ioMapRefused_iff {s : State} : step s = .refused .ioMapRefused ↔ mapRefused s.params = true := by
  constructor
  · intro h
    cases hmap : mapRefused s.params with
    | true => rfl
    | false =>
      rw [step_of_map hmap] at h
      cases eq_testExecuted_of_sampledStep_refused h
  · exact step_of_mapRefused

/-- Settles O45: the map decides, and which maps are refused. -/
theorem readSensitiveMapsRefused : Obligations.ReadSensitiveMapsRefused := fun _ =>
  step_eq_ioMapRefused_iff.trans mapRefused_eq_true

end Sys2Proof.Machine

/-! Byte and word accesses by the kind of the address (20_memory.md R71 to R79). -/

namespace Sys2Proof.Machine

open Sys2Proof.Vocabulary

variable {a : Word} {s : State}

/-! ## A byte read where the environment answers -/

/-- An io read hands the environment's answer over, and the environment sees it (20_memory.md R72, R85). -/
theorem readByte_ioLog_of_io (h : kindAt s.params a = .io) :
    (readByte a s).2.ioLog = .read a (readByte a s).1 :: s.ioLog := by
  simp [readByte, h]

/-- A read where nothing is mapped is no io access (20_memory.md R72). -/
theorem readByte_ioLog_of_unmapped (h : kindAt s.params a = .unmapped) : (readByte a s).2.ioLog = s.ioLog := by
  simp [readByte, h]

/-! ## A word stored, byte by byte -/

/-- The high byte is at the address: the write of the low byte, at the next one, does not touch it
(20_memory.md R75, R79). -/
theorem writeWord_byteAt_high (hwf : s.mem.wf = true) (hram : kindAt s.params a = .ram) (v : Word) :
    (writeWord a v s).byteAt a = hi v := by
  have hne : a ≠ a + 1 := by bv_omega
  rw [(Wrote.word hwf a v).1 a, wordWrites, afterWrites, if_neg fun h => hne h.1, afterWrites, if_pos ⟨rfl, hram⟩]

/-- The low byte is at the next address, modulo 65536 (20_memory.md R71, R75). -/
theorem writeWord_byteAt_low (hwf : s.mem.wf = true) (hram : kindAt s.params (a + 1) = .ram) (v : Word) :
    (writeWord a v s).byteAt (a + 1) = lo v := by
  rw [(Wrote.word hwf a v).1 (a + 1), wordWrites, afterWrites, if_pos ⟨rfl, hram⟩]

/-- A word stored in ram reads back (20_memory.md R73, R75). -/
theorem readWord_writeWord (hwf : s.mem.wf = true) (hram : kindAt s.params a = .ram)
    (hram' : kindAt s.params (a + 1) = .ram) (v : Word) : readWord a (writeWord a v s) = (v, writeWord a v s) := by
  rw [readWord_plain (.inl (by simpa using hram)) (.inl (by simpa using hram')), writeWord_byteAt_high hwf hram,
    writeWord_byteAt_low hwf hram', cat_hi_lo]

/-- Settles O5: each access by the kind of its address, and a word as two bytes. -/
theorem memoryAccesses : Obligations.MemoryAccesses := by
  unfold Obligations.MemoryAccesses
  intro a s
  refine ⟨readByte_plain, fun hio => ?_, fun hunmapped => ?_, fun v hwf => ?_, rfl, fun v hwf => ?_⟩
  · exact ⟨readByte_ioLog_of_io hio, readByte_keepsBut a s, byteAt_readByte s a⟩
  · exact ⟨readByte_keepsBut a s, byteAt_readByte s a, readByte_ioLog_of_unmapped hunmapped⟩
  · exact ⟨writeByte_keepsBut a v s, Wrote.byte hwf a v⟩
  · refine ⟨writeWord_keepsBut a v s, Wrote.word hwf a v, fun hram => ?_, fun hram => ?_, fun hram hram' => ?_⟩
    · rw [readByte_plain (.inl (by simpa using hram)), writeWord_byteAt_high hwf hram]
    · rw [readByte_plain (.inl (by simpa using hram)), writeWord_byteAt_low hwf hram]
    · exact readWord_writeWord hwf hram hram' v

end Sys2Proof.Machine

/-! The opcode map cell by cell: what a cell decodes and what the encoder writes for it, and which cells are empty
(30_encoding.md R110 to R114, R130 to R134, R140). -/

namespace Sys2Proof

open Sys2Proof.Machine

/-! ## Words and spellings -/

@[simp] theorem hi_word (h l : Byte) : hi (word h l) = h := hi_cat h l

@[simp] theorem lo_word (h l : Byte) : lo (word h l) = l := lo_cat h l

theorem wellFormed_iff {i : Instr} : WellFormed i = true ↔ i.core = i := decide_eq_true_iff

/-! ## The pages -/

/-- The byte before the opcode that selects a page, on page 1 none (30_encoding.md R112, R113). -/
def Page.prebytes : Page → List Byte
  | .p1 => []
  | .p2 => [0x18]
  | .p3 => [0x1A]
  | .p4 => [0xCD]

theorem prebytePage_eq_some {b : Byte} {p : Page} (h : prebytePage b = some p) : p.prebytes = [b] := by
  unfold prebytePage at h
  repeat' split at h
  all_goals cases h
  all_goals simp only [Page.prebytes, *]

theorem prebytePage_eq_none {b : Byte} (h18 : b ≠ 0x18) (h1A : b ≠ 0x1A) (hCD : b ≠ 0xCD) :
    prebytePage b = none := by
  simp only [prebytePage, h18, h1A, hCD, if_false]

/-- A first byte that is no prebyte is an opcode of page 1 (30_encoding.md R112). -/
theorem decode_of_prebytePage_none {b : Byte} (h : prebytePage b = none) (rest : List Byte) :
    decode (b :: rest) = decodeOpcode .p1 b rest := by
  simp only [decode, h]

/-- A prebyte and an opcode are looked up on the page the prebyte selects (30_encoding.md R112). -/
theorem decode_of_prebytePage_some {b : Byte} {p : Page} (h : prebytePage b = some p) (op : Byte)
    (rest : List Byte) : decode (b :: op :: rest) = decodeOpcode p op rest := by
  simp only [decode, h]

/-- Bytes that decode are the prebyte of a page, an opcode and what its cell decodes (30_encoding.md R112). -/
theorem exists_opcode_of_decode_ok {bytes rest : List Byte} {i : Instr} (h : decode bytes = .ok i rest) :
    ∃ p op operands, bytes = p.prebytes ++ op :: operands ∧ decodeOpcode p op operands = .ok i rest := by
  cases bytes with
  | nil => cases h
  | cons b bytes =>
    cases hpage : prebytePage b with
    | none => exact ⟨.p1, b, bytes, rfl, decode_of_prebytePage_none hpage bytes ▸ h⟩
    | some p =>
      cases bytes with
      | nil => simp only [decode, hpage, reduceCtorEq] at h
      | cons op operands =>
        have hbytes : b :: op :: operands = p.prebytes ++ op :: operands := by rw [prebytePage_eq_some hpage]; rfl
        exact ⟨p, op, operands, hbytes, decode_of_prebytePage_some hpage op operands ▸ h⟩

/-! ## What a cell makes of the bytes after its opcode -/

/-- The instruction of a cell, given the bytes after the opcode; those past its operands do not matter. -/
def Template.fill : Template → Byte → Byte → Byte → Instr
  | .none i, _, _, _ => i
  | .one f, x, _, _ => f x
  | .two f, x, y, _ => f x y
  | .three f, x, y, z => f x y z

/-- The operand bytes of a cell among those after the opcode (30_encoding.md R114). -/
def Template.operands : Template → Byte → Byte → Byte → List Byte
  | .none _, _, _, _ => []
  | .one _, x, _, _ => [x]
  | .two _, x, y, _ => [x, y]
  | .three _, x, y, z => [x, y, z]

/-- Bytes that decode under a cell are its operand bytes and what is left over. -/
theorem exists_fill_of_decodeOperands_ok {t : Template} {bytes rest : List Byte} {i : Instr}
    (h : decodeOperands t bytes = .ok i rest) :
    ∃ x y z, i = t.fill x y z ∧ bytes = t.operands x y z ++ rest := by
  unfold decodeOperands at h
  split at h <;> cases h
  next => exact ⟨0, 0, 0, rfl, rfl⟩
  next x => exact ⟨x, 0, 0, rfl, rfl⟩
  next x y => exact ⟨x, y, 0, rfl, rfl⟩
  next x y z => exact ⟨x, y, z, rfl, rfl⟩

/-! ## Every cell agrees with the encoder -/

/-- The encoder writes a cell's instruction as the cell's page and opcode and then the operand bytes, whatever
they are, and no second spelling stands in a cell (30_encoding.md R114, R134, R152). -/
def CellEncoded (p : Page) (c : Byte × Template) : Prop :=
  ∀ x y z, encode (c.2.fill x y z) = (p.prebytes ++ [c.1]) ++ c.2.operands x y z ∧
    (c.2.fill x y z).core = c.2.fill x y z

/-- The encoder may write the operand bytes in another form, as the halves of the word they make. -/
theorem CellEncoded.of_operands_eq {p : Page} {c : Byte × Template} {written : Byte → Byte → Byte → List Byte}
    (h : ∀ x y z, encode (c.2.fill x y z) = (p.prebytes ++ [c.1]) ++ written x y z ∧
      (c.2.fill x y z).core = c.2.fill x y z)
    (hsame : ∀ x y z, written x y z = c.2.operands x y z) : CellEncoded p c := fun x y z => hsame x y z ▸ h x y z

/-- Cell by cell: the bytes the encoder writes are computed, and a 16-bit operand is its two halves. -/
theorem cellEncoded_of_mem_pageTable {p : Page} {c : Byte × Template} (h : c ∈ pageTable p) : CellEncoded p c := by
  cases p <;> fin_cases h
  all_goals exact .of_operands_eq (fun _ _ _ => ⟨rfl, rfl⟩) (by simp [Template.operands])

theorem mem_pageTable_of_opcodeCell {p : Page} {op : Byte} {t : Template} (h : opcodeCell p op = some t) :
    (op, t) ∈ pageTable p := by
  obtain ⟨before, after, htable, -⟩ := List.lookup_eq_some_iff.1 h
  rw [htable]
  exact List.mem_append_right _ List.mem_cons_self

/-- Settles O2: the bytes select a cell, and the cell agrees with the encoder. -/
theorem encodeOfDecode : Obligations.EncodeOfDecode := by
  unfold Obligations.EncodeOfDecode
  intro bytes rest i h
  obtain ⟨p, op, operands, rfl, hop⟩ := exists_opcode_of_decode_ok h
  unfold decodeOpcode at hop
  cases hcell : opcodeCell p op with
  | none => rw [hcell] at hop; cases hop
  | some t =>
    rw [hcell] at hop
    obtain ⟨x, y, z, rfl, rfl⟩ := exists_fill_of_decodeOperands_ok hop
    obtain ⟨hencode, hcore⟩ := cellEncoded_of_mem_pageTable (mem_pageTable_of_opcodeCell hcell) x y z
    exact ⟨by rw [hencode]; simp, wellFormed_iff.2 hcore⟩

/-! ## The empty cells -/

theorem opcodeCell_eq_none_iff {p : Page} {op : Byte} :
    opcodeCell p op = none ↔ op ∉ (pageTable p).map Prod.fst := by
  simp only [opcodeCell, List.lookup_eq_none_iff, bne_iff_ne, List.mem_map, not_exists, not_and]
  exact forall₂_congr fun _ _ => ne_comm

/-- An opcode is illegal on a page exactly when the page does not list it, whatever follows it (30_encoding.md
R140). -/
theorem decodeOpcode_eq_illegalOpcode_iff {p : Page} {op : Byte} {rest : List Byte} :
    decodeOpcode p op rest = .rejected (.illegalOpcode p op) ↔ op ∉ (pageTable p).map Prod.fst := by
  rw [← opcodeCell_eq_none_iff]
  exact ⟨fun h => (decodeOpcode_illegal h).1, fun h => by simp only [decodeOpcode, h]⟩

/-- The bytes that are no opcode of page 1: the twenty empty cells, then the prebytes (30_encoding.md R112,
R140). -/
def notOnPage1 : List Byte :=
  [0x41, 0x42, 0x45, 0x4B, 0x4E, 0x51, 0x52, 0x55, 0x5B, 0x5E, 0x61, 0x62, 0x65, 0x6B, 0x71, 0x72, 0x75, 0x7B, 0x87,
    0xC7] ++ [0x18, 0x1A, 0xCD]

/-- The sixteen bytes of one row of the opcode map, by their high digit. -/
def rowBytes (high : Nat) : List Byte := (List.range 16).map fun low => BitVec.ofNat 8 (16 * high + low)

theorem mem_rowBytes (b : Byte) : b ∈ (List.range 16).flatMap rowBytes := by
  have hlt : b.toNat < 256 := b.isLt
  refine List.mem_flatMap.2 ⟨b.toNat / 16, List.mem_range.2 (by omega), ?_⟩
  refine List.mem_map.2 ⟨b.toNat % 16, List.mem_range.2 (by omega), ?_⟩
  rw [Nat.div_add_mod, BitVec.ofNat_toNat, BitVec.setWidth_eq]

/-- The rows of page 1 (30_encoding.md R130). -/
def page1Rows : List (List (Byte × Template)) :=
  [page1Row0, page1Row1, page1Row2, page1Row3, page1Row4, page1Row5, page1Row6, page1Row7, page1Row8, page1Row9,
    page1RowA, page1RowB, page1RowC, page1RowD, page1RowE, page1RowF]

theorem page1_eq_flatten : page1 = page1Rows.flatten := by
  simp only [page1, page1Rows, List.flatten_cons, List.flatten_nil, List.append_assoc, List.append_nil]

/-- Row by row, page 1 lists every other byte, in ascending order (30_encoding.md R130). -/
theorem page1Rows_opcodes : page1Rows.map (List.map Prod.fst) =
    (List.range 16).map fun high => (rowBytes high).filter (· ∉ notOnPage1) := by
  decide

theorem page1_opcodes :
    (pageTable .p1).map Prod.fst = ((List.range 16).flatMap rowBytes).filter (· ∉ notOnPage1) := by
  rw [pageTable, page1_eq_flatten, List.map_flatten, page1Rows_opcodes, List.filter_flatMap, List.flatMap_def]

theorem notMem_page1_iff {b : Byte} : b ∉ (pageTable .p1).map Prod.fst ↔ b ∈ notOnPage1 := by
  rw [page1_opcodes, List.mem_filter]
  simp only [mem_rowBytes, true_and, decide_eq_true_eq, not_not]

/-- Settles O3: page by page, the opcodes listed. -/
theorem undefinedOpcodes : Obligations.UndefinedOpcodes := by
  unfold Obligations.UndefinedOpcodes
  refine ⟨fun b rest h18 h1A hCD => ?_, fun b rest => ⟨?_, ?_, ?_⟩⟩
  · rw [decode_of_prebytePage_none (prebytePage_eq_none h18 h1A hCD), decodeOpcode_eq_illegalOpcode_iff,
      notMem_page1_iff, notOnPage1, List.mem_append]
    exact or_iff_left (by simp only [List.mem_cons, h18, h1A, hCD, List.not_mem_nil, or_self, not_false_eq_true])
  · exact decodeOpcode_eq_illegalOpcode_iff
  · refine decodeOpcode_eq_illegalOpcode_iff.trans (not_congr (List.Perm.mem_iff ?_))
    decide
  · exact decodeOpcode_eq_illegalOpcode_iff

end Sys2Proof

/-! Each family of instructions decoded from the bytes the encoder writes for it (30_encoding.md R110 to R114). -/

namespace Sys2Proof.Vocabulary

open Sys2Proof.Machine

section
variable {imm dir ext indx indy : List Byte}

theorem decodes_memBytes {f : Mem → Instr} (h : MemForms dir ext indx indy f) (m : Mem) :
    Decodes (memBytes dir ext indx indy m) (f m) := by
  obtain ⟨hdir, hext, hindx, hindy⟩ := h
  cases m with
  | dir dd => exact hdir dd
  | ext a => rw [← cat_hi_lo a, memBytes, hi_cat, lo_cat]; exact hext (hi a) (lo a)
  | indx ff => exact hindx ff
  | indy ff => exact hindy ff

theorem decodes_src8Bytes {f : Src8 → Instr} (h : Src8Forms imm dir ext indx indy f) (src : Src8) :
    Decodes (src8Bytes imm dir ext indx indy src) (f src) := by
  obtain ⟨himm, hmem⟩ := h
  cases src with
  | imm ii => exact himm ii
  | mem m => exact decodes_memBytes (f := fun m => f (.mem m)) hmem m

theorem decodes_src16Bytes {f : Src16 → Instr} (h : Src16Forms imm dir ext indx indy f) (src : Src16) :
    Decodes (src16Bytes imm dir ext indx indy src) (f src) := by
  obtain ⟨himm, hmem⟩ := h
  cases src with
  | imm v => rw [← cat_hi_lo v, src16Bytes, hi_cat, lo_cat]; exact himm (hi v) (lo v)
  | mem m => exact decodes_memBytes (f := fun m => f (.mem m)) hmem m

theorem decodes_memNoDir {f : MemNoDir → Instr} (h : NoDirForms ext indx indy f) (m : MemNoDir) :
    Decodes (memBytes dir ext indx indy m.toMem) (f m) := by
  obtain ⟨hext, hindx, hindy⟩ := h
  cases m with
  | ext a => rw [← cat_hi_lo a, MemNoDir.toMem, memBytes, hi_cat, lo_cat]; exact hext (hi a) (lo a)
  | indx ff => exact hindx ff
  | indy ff => exact hindy ff

theorem decodes_mask {f : MemBit → Byte → Instr} (h : MaskForms dir indx indy f) (m : MemBit) (mm : Byte) :
    Decodes (memBytes dir ext indx indy m.toMem ++ [mm]) (f m mm) := by
  obtain ⟨hdir, hindx, hindy⟩ := h
  cases m with
  | dir dd => simpa [MemBit.toMem, memBytes] using hdir dd mm
  | indx ff => simpa [MemBit.toMem, memBytes] using hindx ff mm
  | indy ff => simpa [MemBit.toMem, memBytes] using hindy ff mm

theorem decodes_maskRel {f : MemBit → Byte → Byte → Instr} (h : MaskRelForms dir indx indy f) (m : MemBit)
    (mm rr : Byte) : Decodes (memBytes dir ext indx indy m.toMem ++ [mm, rr]) (f m mm rr) := by
  obtain ⟨hdir, hindx, hindy⟩ := h
  cases m with
  | dir dd => simpa [MemBit.toMem, memBytes] using hdir dd mm rr
  | indx ff => simpa [MemBit.toMem, memBytes] using hindx ff mm rr
  | indy ff => simpa [MemBit.toMem, memBytes] using hindy ff mm rr

end

/-- The bytes of a well-formed instruction decode to it, whatever follows: family by family, each form's opcode
looked up in the map; the second spellings are not well-formed. -/
theorem decodes_encode {i : Instr} (hwf : WellFormed i = true) : Decodes (encode i) i := by
  cases i with
  | ldaa src | ldab src | adca src | adcb src | adda src | addb src | cmpa src | cmpb src | sbca src | sbcb src
  | suba src | subb src | anda src | andb src | bita src | bitb src | eora src | eorb src | oraa src | orab src =>
    exact decodes_src8Bytes
      ⟨fun _ _ => rfl, fun _ _ => rfl, fun _ _ _ => rfl, fun _ _ => rfl, fun _ _ => rfl⟩ src
  | ldd src | lds src | ldx src | ldy src | addd src | cpd src | cpx src | cpy src | subd src =>
    exact decodes_src16Bytes
      ⟨fun _ _ _ => rfl, fun _ _ => rfl, fun _ _ _ => rfl, fun _ _ => rfl, fun _ _ => rfl⟩ src
  | staa m | stab m | std m | sts m | stx m | sty m | jsr m =>
    exact decodes_memBytes ⟨fun _ _ => rfl, fun _ _ _ => rfl, fun _ _ => rfl, fun _ _ => rfl⟩ m
  | clr m | dec m | inc m | neg m | com m | asl m | asr m | lsr m | rol m | ror m | jmp m | tst m =>
    exact decodes_memNoDir ⟨fun _ _ _ => rfl, fun _ _ => rfl, fun _ _ => rfl⟩ m
  | bclr m mm | bset m mm => exact decodes_mask ⟨fun _ _ _ => rfl, fun _ _ _ => rfl, fun _ _ _ => rfl⟩ m mm
  | brclr m mm rr | brset m mm rr =>
    exact decodes_maskRel ⟨fun _ _ _ _ => rfl, fun _ _ _ _ => rfl, fun _ _ _ _ => rfl⟩ m mm rr
  | bhs _ | blo _ | lsl _ | lsla | lslb | lsld => cases hwf
  | _ => exact fun _ => rfl

/-- Settles O1: family by family. -/
theorem decodeOfEncode : Obligations.DecodeOfEncode := fun _ rest hwf => decodes_encode hwf rest

theorem decodes_of_encode_eq {bytes : List Byte} {i : Instr} (hencode : encode i = bytes)
    (hwf : WellFormed i = true) : Decodes bytes i := hencode ▸ decodes_encode hwf

/-- Settles O4: the ten words are what the encoder writes. -/
theorem sampleWordsDecode : Obligations.SampleWordsDecode := by
  unfold Obligations.SampleWordsDecode
  and_intros
  all_goals exact decodes_of_encode_eq rfl rfl

end Sys2Proof.Vocabulary

/-! Words and addresses as numbers, and the operand forms (30_encoding.md R121 to R127). -/

namespace Sys2Proof.Machine

/-- `h : l` as a number: the high byte counts 256 (00_scope.md R10). -/
theorem cat_toNat (h l : Byte) : (cat h l).toNat = 256 * h.toNat + l.toNat := by
  unfold cat
  rw [BitVec.toNat_append, ← Nat.shiftLeft_add_eq_or_of_lt l.isLt, Nat.shiftLeft_eq, Nat.mul_comm]

/-- Zero extension keeps the number (00_scope.md R10). -/
theorem zext16_toNat (v : Byte) : (zext16 v).toNat = v.toNat :=
  BitVec.toNat_setWidth_of_le (by decide)

/-- A base and an unsigned offset, modulo 65536 (30_encoding.md R124). -/
theorem add_zext16_toNat (base : Word) (ff : Byte) :
    (base + zext16 ff).toNat = (base.toNat + ff.toNat) % 65536 := by
  rw [BitVec.toNat_add, zext16_toNat]

/-- Settles O6: the addresses as numbers; the operands are their definitions. -/
theorem operandForms : Obligations.OperandForms := by
  unfold Obligations.OperandForms
  exact fun s => ⟨zext16_toNat, cat_toNat, add_zext16_toNat s.x, add_zext16_toNat s.y, fun _ => rfl,
    fun jj kk => ⟨cat_toNat jj kk, rfl⟩, fun _ => ⟨rfl, rfl⟩⟩

end Sys2Proof.Machine

/-! The forms of a family of instructions: bytes decode to it because they are what `encode` writes for it
(30_encoding.md R110 to R114). -/

namespace Sys2Proof.Vocabulary

open Sys2Proof.Machine

section
variable {imm dir ext indx indy : List Byte}

/-- The memory forms of a family, given the bytes of each operand. -/
theorem memForms_of_encode {f : Mem → Instr} (hencode : ∀ m, encode (f m) = memBytes dir ext indx indy m)
    (hcore : ∀ m, (f m).core = f m) : MemForms dir ext indx indy f := by
  have hdecodes (m : Mem) : Decodes (memBytes dir ext indx indy m) (f m) :=
    decodes_of_encode_eq (hencode m) (wellFormed_iff.2 (hcore m))
  refine ⟨fun dd => hdecodes (.dir dd), fun hh ll => ?_, fun ff => hdecodes (.indx ff),
    fun ff => hdecodes (.indy ff)⟩
  simpa [memBytes] using hdecodes (.ext (cat hh ll))

theorem src8Forms_of_encode {f : Src8 → Instr}
    (hencode : ∀ src, encode (f src) = src8Bytes imm dir ext indx indy src) (hcore : ∀ src, (f src).core = f src) :
    Src8Forms imm dir ext indx indy f :=
  ⟨fun ii => decodes_of_encode_eq (hencode (.imm ii)) (wellFormed_iff.2 (hcore _)),
    memForms_of_encode (f := fun m => f (.mem m)) (fun m => hencode (.mem m)) fun _ => hcore _⟩

theorem src16Forms_of_encode {f : Src16 → Instr}
    (hencode : ∀ src, encode (f src) = src16Bytes imm dir ext indx indy src) (hcore : ∀ src, (f src).core = f src) :
    Src16Forms imm dir ext indx indy f := by
  refine ⟨fun jj kk => decodes_of_encode_eq ?_ (wellFormed_iff.2 (hcore _)),
    memForms_of_encode (f := fun m => f (.mem m)) (fun m => hencode (.mem m)) fun _ => hcore _⟩
  simpa [src16Bytes] using hencode (.imm (cat jj kk))

end

end Sys2Proof.Vocabulary

/-! Loads and stores: the register or the bytes written, N and Z from what was moved, V cleared
(40_load_store_transfer.md R200 to R205, R214 to R219). -/

namespace Sys2Proof.Vocabulary

open Sys2Proof.Machine

/-! ## The flags of a move (00_scope.md R16) -/

theorem Moved8.of_ccr {r ccr : Byte} {t : State} (h : t.ccr = moveFlags8 ccr r) : Moved8 r t :=
  ⟨⟨h ▸ flagN_moveFlags8 ccr r, h ▸ flagZ_moveFlags8 ccr r⟩, h ▸ flagV_moveFlags8 ccr r⟩

theorem Moved16.of_ccr {r : Word} {ccr : Byte} {t : State} (h : t.ccr = moveFlags16 ccr r) : Moved16 r t :=
  ⟨⟨h ▸ flagN_moveFlags16 ccr r, h ▸ flagZ_moveFlags16 ccr r⟩, h ▸ flagV_moveFlags16 ccr r⟩

/-! ## Loads -/

/-- Once its operand is read, an operation on an accumulator touches memory no more. -/
theorem accOp_wrote (op : Byte → Byte → Byte → Byte × Byte) (k : Acc) (src : Src8) (s : State) :
    Wrote [] (afterOperand8 src s) (accOp op k src s) := by
  cases k <;> exact Wrote.nil rfl rfl rfl

theorem wordOp_wrote (op : Byte → Word → Word → Word × Byte) (k : Reg16) (src : Src16) (s : State) :
    Wrote [] (afterOperand16 src s) (wordOp op k src s) := by
  cases k <;> exact Wrote.nil rfl rfl rfl

theorem accOp_loadOp_moved (k : Acc) (src : Src8) (s : State) : Moved8 (operand8 src s) (accOp loadOp k src s) :=
  .of_ccr rfl

theorem wordOp_load16Op_moved (k : Reg16) (src : Src16) (s : State) :
    Moved16 (operand16 src s) (wordOp load16Op k src s) := .of_ccr rfl

/-- Settles O7: the accumulator is the operand, and the flags are the operand's. -/
theorem loadAccumulators : Obligations.LoadAccumulators := by
  unfold Obligations.LoadAccumulators
  refine ⟨src8Forms_of_encode (fun _ => rfl) fun _ => rfl, src8Forms_of_encode (fun _ => rfl) fun _ => rfl,
    fun src s => ?_⟩
  have hmoved := fun k => accOp_loadOp_moved k src s
  have hwrote := fun k => accOp_wrote loadOp k src s
  exact ⟨⟨_, rfl, rfl, hmoved .a, exec_keepsBut (i := .ldaa src) rfl, hwrote .a⟩,
    ⟨_, rfl, rfl, hmoved .b, exec_keepsBut (i := .ldab src) rfl, hwrote .b⟩⟩

/-- Settles O8: the register is the operand, and the flags are the operand's. -/
theorem loadWordRegisters : Obligations.LoadWordRegisters := by
  unfold Obligations.LoadWordRegisters
  refine ⟨src16Forms_of_encode (fun _ => rfl) fun _ => rfl, src16Forms_of_encode (fun _ => rfl) fun _ => rfl,
    src16Forms_of_encode (fun _ => rfl) fun _ => rfl, src16Forms_of_encode (fun _ => rfl) fun _ => rfl,
    fun src s => ?_⟩
  have hmoved := fun k => wordOp_load16Op_moved k src s
  have hwrote := fun k => wordOp_wrote load16Op k src s
  exact ⟨⟨_, rfl, rfl, rfl, hmoved .d, exec_keepsBut (i := .ldd src) rfl, hwrote .d⟩,
    ⟨_, rfl, rfl, hmoved .sp, exec_keepsBut (i := .lds src) rfl, hwrote .sp⟩,
    ⟨_, rfl, rfl, hmoved .x, exec_keepsBut (i := .ldx src) rfl, hwrote .x⟩,
    ⟨_, rfl, rfl, hmoved .y, exec_keepsBut (i := .ldy src) rfl, hwrote .y⟩⟩

/-! ## Stores -/

section
variable {s : State}

/-- The flags are written beside the byte: the store is the one write (40_load_store_transfer.md R214). -/
theorem storeAcc_wrote (hwf : s.mem.wf = true) (k : Acc) (m : Mem) :
    Wrote [(effAddr m s, getAcc k s)] s (storeAcc k m s) := by
  rw [storeAcc, writeByte_setCcr]
  exact (Wrote.byte hwf _ _).congr rfl rfl rfl

/-- High byte first (40_load_store_transfer.md R216). -/
theorem storeReg16_wrote (hwf : s.mem.wf = true) (k : Reg16) (m : Mem) :
    Wrote (wordWrites (effAddr m s) (getReg16 k s)) s (storeReg16 k m s) := by
  rw [storeReg16, writeWord_setCcr]
  exact (Wrote.word hwf _ _).congr rfl rfl rfl

end

theorem storeAcc_moved (k : Acc) (m : Mem) (s : State) : Moved8 (getAcc k s) (storeAcc k m s) :=
  .of_ccr (ccr := s.ccr) (by simp [storeAcc])

theorem storeReg16_moved (k : Reg16) (m : Mem) (s : State) : Moved16 (getReg16 k s) (storeReg16 k m s) :=
  .of_ccr (ccr := s.ccr) (by simp [storeReg16])

/-- Settles O9: one write of the accumulator, and the flags are the accumulator's. -/
theorem storeAccumulators : Obligations.StoreAccumulators := by
  unfold Obligations.StoreAccumulators
  exact ⟨memForms_of_encode (fun _ => rfl) fun _ => rfl, memForms_of_encode (fun _ => rfl) fun _ => rfl,
    fun m s hwf => ⟨⟨_, rfl, storeAcc_wrote hwf .a m, storeAcc_moved .a m s, storeAcc_keepsBut .a m s⟩,
      ⟨_, rfl, storeAcc_wrote hwf .b m, storeAcc_moved .b m s, storeAcc_keepsBut .b m s⟩⟩⟩

/-- Settles O10: the two writes of the register, and the flags are the register's. -/
theorem storeWordRegisters : Obligations.StoreWordRegisters := by
  unfold Obligations.StoreWordRegisters
  refine ⟨memForms_of_encode (fun _ => rfl) fun _ => rfl, memForms_of_encode (fun _ => rfl) fun _ => rfl,
    memForms_of_encode (fun _ => rfl) fun _ => rfl, memForms_of_encode (fun _ => rfl) fun _ => rfl,
    fun m s hwf => ?_⟩
  have hwrote := fun k => storeReg16_wrote hwf k m
  have hmoved := fun k => storeReg16_moved k m s
  have hkeeps := fun k => storeReg16_keepsBut k m s
  exact ⟨⟨_, rfl, hwrote .d, hmoved .d, hkeeps .d⟩, ⟨_, rfl, hwrote .sp, hmoved .sp, hkeeps .sp⟩,
    ⟨_, rfl, hwrote .x, hmoved .x, hkeeps .x⟩, ⟨_, rfl, hwrote .y, hmoved .y, hkeeps .y⟩⟩

end Sys2Proof.Vocabulary

/-! Pushes and pulls (40_load_store_transfer.md R206 to R213). -/

namespace Sys2Proof.Vocabulary

open Sys2Proof.Machine

/-- A push is one write, at SP (00_scope.md R14). -/
theorem push8_wrote {s : State} (hwf : s.mem.wf = true) (v : Byte) : Wrote [(s.sp, v)] s (push8 v s) :=
  (Wrote.nil rfl rfl rfl).push8 hwf rfl v

/-- Settles O11: the writes of a push, and SP moved down by the bytes pushed. -/
theorem pushes : Obligations.Pushes := by
  unfold Obligations.Pushes
  refine ⟨fun _ => rfl, fun _ => rfl, fun _ => rfl, fun _ => rfl, fun s hwf => ?_⟩
  exact ⟨⟨_, rfl, push8_wrote hwf s.a, push8_sp s s.a, push8_keepsBut s.a s⟩,
    ⟨_, rfl, push8_wrote hwf s.b, push8_sp s s.b, push8_keepsBut s.b s⟩,
    ⟨_, rfl, Wrote.push16 hwf s.x, push16_sp s s.x, push16_keepsBut s.x s⟩,
    ⟨_, rfl, Wrote.push16 hwf s.y, push16_sp s s.y, push16_keepsBut s.y s⟩⟩

section
variable (s : State)

theorem pull8_fst : (pull8 s).1 = (readByte (s.sp + 1) s).1 := by rw [pull8_eq]

theorem pull16_fst : (pull16 s).1 = (readWord (s.sp + 1) s).1 := by rw [pull16_eq]

/-- Past its read a pull moves SP and no more (00_scope.md R14). -/
theorem pull8_wrote : Wrote [] (readByte (s.sp + 1) s).2 (pull8 s).2 := by
  rw [pull8_eq]
  exact Wrote.nil rfl rfl rfl

theorem pull16_wrote : Wrote [] (readWord (s.sp + 1) s).2 (pull16 s).2 := by
  rw [pull16_eq]
  exact Wrote.nil rfl rfl rfl

end

/-- Settles O12: the register is what is read above SP, and SP moves up by the bytes pulled. -/
theorem pulls : Obligations.Pulls := by
  unfold Obligations.Pulls
  refine ⟨fun _ => rfl, fun _ => rfl, fun _ => rfl, fun _ => rfl, fun s => ?_⟩
  exact ⟨⟨_, rfl, pull8_fst s, pull8_sp s, exec_keepsBut (i := .pula) rfl, (pull8_wrote s).congr rfl rfl rfl⟩,
    ⟨_, rfl, pull8_fst s, pull8_sp s, exec_keepsBut (i := .pulb) rfl, (pull8_wrote s).congr rfl rfl rfl⟩,
    ⟨_, rfl, pull16_fst s, pull16_sp s, exec_keepsBut (i := .pulx) rfl, (pull16_wrote s).congr rfl rfl rfl⟩,
    ⟨_, rfl, pull16_fst s, pull16_sp s, exec_keepsBut (i := .puly) rfl, (pull16_wrote s).congr rfl rfl rfl⟩⟩

end Sys2Proof.Vocabulary

/-! Transfers and exchanges (40_load_store_transfer.md R220 to R226; 46_absent_from_source.md R484 to R486;
41_arithmetic.md R276, R285). -/

namespace Sys2Proof.Vocabulary

open Sys2Proof.Machine

/-- Settles O14: the accumulator copied, with its flags; TPA copies the CCR bit by bit. -/
theorem accumulatorTransfers : Obligations.AccumulatorTransfers := by
  unfold Obligations.AccumulatorTransfers
  refine ⟨fun _ => rfl, fun _ => rfl, fun _ => rfl, fun s => ⟨?_, ?_, ?_⟩⟩
  · exact ⟨_, rfl, rfl, .of_ccr rfl, exec_keepsBut (i := .tab) rfl, .nil rfl rfl rfl⟩
  · exact ⟨_, rfl, rfl, .of_ccr rfl, exec_keepsBut (i := .tba) rfl, .nil rfl rfl rfl⟩
  · exact ⟨_, rfl, ⟨rfl, rfl, rfl, rfl, rfl, rfl, rfl, rfl⟩, setA_keepsBut s.ccr s, .nil rfl rfl rfl⟩

/-- TAP: A through X's rule into the CCR, and the inhibit set when I falls (40_load_store_transfer.md R221). -/
theorem exec_tap_eq (s : State) : exec .tap s =
    .next ((s.setCcr (loadCcr s.ccr s.a)).setInhibit (s.inhibit || (flagI s.ccr && !flagI (loadCcr s.ccr s.a)))) :=
  congrArg Host.Outcome.next (setCcrInhibiting_eq _ s)

/-- Settles O15: each flag of the CCR loaded. -/
theorem transferAToCcr : Obligations.TransferAToCcr := by
  unfold Obligations.TransferAToCcr
  refine ⟨fun _ => rfl, fun s => ⟨_, exec_tap_eq s, ?_, ?_, ?_, ?_, ?_, ?_, ?_, ?_, rfl,
    exec_keepsBut (exec_tap_eq s), .nil rfl rfl rfl⟩⟩
  · exact flagS_loadCcr s.ccr s.a
  · exact flagX_loadCcr s.ccr s.a
  · exact flagH_loadCcr s.ccr s.a
  · exact flagI_loadCcr s.ccr s.a
  · exact flagN_loadCcr s.ccr s.a
  · exact flagZ_loadCcr s.ccr s.a
  · exact flagV_loadCcr s.ccr s.a
  · exact flagC_loadCcr s.ccr s.a

theorem add_one_toNat (v : Word) : (v + 1).toNat = (v.toNat + 1) % 65536 := BitVec.toNat_add v 1

/-- One less, modulo 65536: below 0 comes 65535. -/
theorem sub_one_toNat (v : Word) : ((v - 1).toNat : Int) = ((v.toNat : Int) - 1) % 65536 := by
  have hlt := v.isLt
  have hsub : (v - 1).toNat = (65535 + v.toNat) % 65536 := BitVec.toNat_sub v 1
  omega

/-- Settles O16: the pointers as numbers; an exchange moves the halves. -/
theorem pointerTransfers : Obligations.PointerTransfers := by
  unfold Obligations.PointerTransfers
  refine ⟨fun _ => rfl, fun _ => rfl, fun _ => rfl, fun _ => rfl, fun _ => rfl, fun _ => rfl, fun _ => rfl,
    fun _ => rfl, fun s => ⟨?tys, ?txs, ?tsx, ?tsy, ?ins, ?des, ?xgdx, ?xgdy⟩⟩
  case tys => exact ⟨_, rfl, sub_one_toNat s.y, setSp_keepsBut _ s, .nil rfl rfl rfl⟩
  case txs => exact ⟨_, rfl, sub_one_toNat s.x, setSp_keepsBut _ s, .nil rfl rfl rfl⟩
  case tsx => exact ⟨_, rfl, add_one_toNat s.sp, setX_keepsBut _ s, .nil rfl rfl rfl⟩
  case tsy => exact ⟨_, rfl, add_one_toNat s.sp, setY_keepsBut _ s, .nil rfl rfl rfl⟩
  case ins => exact ⟨_, rfl, add_one_toNat s.sp, setSp_keepsBut _ s, .nil rfl rfl rfl⟩
  case des => exact ⟨_, rfl, sub_one_toNat s.sp, setSp_keepsBut _ s, .nil rfl rfl rfl⟩
  case xgdx => exact ⟨_, rfl, rfl, rfl, rfl, exec_keepsBut (i := .xgdx) rfl, .nil rfl rfl rfl⟩
  case xgdy => exact ⟨_, rfl, rfl, rfl, rfl, exec_keepsBut (i := .xgdy) rfl, .nil rfl rfl rfl⟩

end Sys2Proof.Vocabulary

/-! The operations on an operand, each as its result and its CCR: what the register holds afterwards, what the CCR is
and what memory is (30_encoding.md R127; 20_memory.md R76). -/

namespace Sys2Proof.Vocabulary

open Sys2Proof.Machine

/-! ## An accumulator and an 8-bit operand -/

section
variable (op : Byte → Byte → Byte → Byte × Byte) (k : Acc) (src : Src8) (s : State)

theorem getAcc_readSrc8 : getAcc k (readSrc8 src s).2 = getAcc k s := by
  cases k with
  | a => exact readSrc8_a s src
  | b => exact readSrc8_b s src

/-- Reading the operand changes neither the accumulator nor the CCR, so the operation is on the old ones. -/
theorem accOp_eq : accOp op k src s =
    (setAcc k (op s.ccr (getAcc k s) (operand8 src s)).1 (afterOperand8 src s)).setCcr
      (op s.ccr (getAcc k s) (operand8 src s)).2 := by
  rw [accOp, readSrc8_ccr, getAcc_readSrc8]
  rfl

theorem getAcc_accOp : getAcc k (accOp op k src s) = (op s.ccr (getAcc k s) (operand8 src s)).1 := by
  rw [accOp_eq]
  cases k <;> rfl

theorem ccr_accOp : (accOp op k src s).ccr = (op s.ccr (getAcc k s) (operand8 src s)).2 := by
  rw [accOp_eq]
  rfl

theorem ccr_accTest : (accTest op k src s).ccr = (op s.ccr (getAcc k s) (operand8 src s)).2 := by
  rw [accTest, readSrc8_ccr, getAcc_readSrc8]
  rfl

theorem accTest_wrote : Wrote [] (afterOperand8 src s) (accTest op k src s) := .nil rfl rfl rfl

end

/-! ## A 16-bit register and a 16-bit operand -/

section
variable (op : Byte → Word → Word → Word × Byte) (k : Reg16) (src : Src16) (s : State)

theorem getReg16_readSrc16 : getReg16 k (readSrc16 src s).2 = getReg16 k s := by
  cases k with
  | d => exact congrArg₂ cat (readSrc16_a s src) (readSrc16_b s src)
  | x => exact readSrc16_x s src
  | y => exact readSrc16_y s src
  | sp => exact readSrc16_sp s src

theorem wordOp_eq : wordOp op k src s =
    (setReg16 k (op s.ccr (getReg16 k s) (operand16 src s)).1 (afterOperand16 src s)).setCcr
      (op s.ccr (getReg16 k s) (operand16 src s)).2 := by
  rw [wordOp, readSrc16_ccr, getReg16_readSrc16]
  rfl

theorem getReg16_wordOp : getReg16 k (wordOp op k src s) = (op s.ccr (getReg16 k s) (operand16 src s)).1 := by
  rw [wordOp_eq]
  cases k with
  | d => exact cat_hi_lo _
  | x | y | sp => rfl

theorem ccr_wordOp : (wordOp op k src s).ccr = (op s.ccr (getReg16 k s) (operand16 src s)).2 := by
  rw [wordOp_eq]
  cases k <;> rfl

theorem ccr_wordTest : (wordTest op k src s).ccr = (op s.ccr (getReg16 k s) (operand16 src s)).2 := by
  rw [wordTest, readSrc16_ccr, getReg16_readSrc16]
  rfl

theorem wordTest_wrote : Wrote [] (afterOperand16 src s) (wordTest op k src s) := .nil rfl rfl rfl

end

/-! ## One operand -/

section
variable (op : Byte → Byte → Byte × Byte)

theorem getAcc_accUnary (k : Acc) (s : State) : getAcc k (accUnary op k s) = (op s.ccr (getAcc k s)).1 := by
  cases k <;> rfl

theorem ccr_accUnary (k : Acc) (s : State) : (accUnary op k s).ccr = (op s.ccr (getAcc k s)).2 := rfl

theorem accUnary_wrote (k : Acc) (s : State) : Wrote [] s (accUnary op k s) := by
  cases k <;> exact .nil rfl rfl rfl

theorem ccr_memUnary (m : Mem) (s : State) :
    (memUnary op m s).ccr = (op s.ccr (readByte (effAddr m s) s).1).2 := by
  rw [memUnary, readByte_ccr, writeByte_ccr]
  rfl

/-- After the one read, one write at the same address (20_memory.md R76). -/
theorem memUnary_wrote {s : State} (hwf : s.mem.wf = true) (m : Mem) :
    Wrote [(effAddr m s, (op s.ccr (readByte (effAddr m s) s).1).1)] (readByte (effAddr m s) s).2
      (memUnary op m s) := by
  have hread : (readByte (effAddr m s) s).2.mem.wf = true := by rw [readByte_mem]; exact hwf
  rw [memUnary, readByte_ccr, writeByte_setCcr]
  exact (Wrote.byte hread _ _).congr rfl rfl rfl

end

/-- The three forms of a family without a direct form, given the bytes of each operand (30_encoding.md R114). -/
theorem noDirForms_of_encode {dir ext indx indy : List Byte} {f : MemNoDir → Instr}
    (hencode : ∀ m, encode (f m) = memBytes dir ext indx indy m.toMem) (hcore : ∀ m, (f m).core = f m) :
    NoDirForms ext indx indy f := by
  have hdecodes (m : MemNoDir) : Decodes (memBytes dir ext indx indy m.toMem) (f m) :=
    decodes_of_encode_eq (hencode m) (wellFormed_iff.2 (hcore m))
  refine ⟨fun hh ll => ?_, fun ff => hdecodes (.indx ff), fun ff => hdecodes (.indy ff)⟩
  simpa [memBytes, MemNoDir.toMem] using hdecodes (.ext (cat hh ll))

end Sys2Proof.Vocabulary

/-! Sums, differences and compares: the result and the flags in integers (41_arithmetic.md R250, R253 to R258,
R262 to R266, R292 to R297; 00_scope.md R17). -/

namespace Sys2Proof.Vocabulary

open Sys2Proof.Machine

/-! ## Eight bits -/

section
variable (k : Acc) (src : Src8) (s : State)

theorem accOp_addOp_summed :
    Summed8 (getAcc k s) (operand8 src s) false (getAcc k (accOp addOp k src s)) (accOp addOp k src s) := by
  rw [getAcc_accOp]
  exact .of_ccr (ccr_accOp addOp k src s)

theorem accOp_adcOp_summed :
    Summed8 (getAcc k s) (operand8 src s) (flagC s.ccr) (getAcc k (accOp adcOp k src s))
      (accOp adcOp k src s) := by
  rw [getAcc_accOp]
  exact .of_ccr (ccr_accOp adcOp k src s)

theorem accOp_subOp_subtracted :
    Subtracted8 (getAcc k s) (operand8 src s) false (getAcc k (accOp subOp k src s)) (accOp subOp k src s) := by
  rw [getAcc_accOp]
  exact .of_ccr (ccr_accOp subOp k src s)

theorem accOp_sbcOp_subtracted :
    Subtracted8 (getAcc k s) (operand8 src s) (flagC s.ccr) (getAcc k (accOp sbcOp k src s))
      (accOp sbcOp k src s) := by
  rw [getAcc_accOp]
  exact .of_ccr (ccr_accOp sbcOp k src s)

theorem accTest_subOp_subtracted :
    Subtracted8 (getAcc k s) (operand8 src s) false (sub8 (getAcc k s) (operand8 src s) false).r
      (accTest subOp k src s) := .of_ccr (ccr_accTest subOp k src s)

end

/-- Settles O18: the sum of the accumulator and the operand, or of the accumulators. -/
theorem byteAdditions : Obligations.ByteAdditions := by
  unfold Obligations.ByteAdditions
  refine ⟨fun _ => rfl, src8Forms_of_encode (fun _ => rfl) fun _ => rfl,
    src8Forms_of_encode (fun _ => rfl) fun _ => rfl, src8Forms_of_encode (fun _ => rfl) fun _ => rfl,
    src8Forms_of_encode (fun _ => rfl) fun _ => rfl, fun src s => ⟨?aba, ?adca, ?adcb, ?adda, ?addb⟩⟩
  case aba => exact ⟨_, rfl, .of_ccr rfl, exec_keepsBut (i := .aba) rfl, .nil rfl rfl rfl⟩
  case adca =>
    exact ⟨_, rfl, accOp_adcOp_summed .a src s, exec_keepsBut (i := .adca src) rfl, accOp_wrote _ .a src s⟩
  case adcb =>
    exact ⟨_, rfl, accOp_adcOp_summed .b src s, exec_keepsBut (i := .adcb src) rfl, accOp_wrote _ .b src s⟩
  case adda =>
    exact ⟨_, rfl, accOp_addOp_summed .a src s, exec_keepsBut (i := .adda src) rfl, accOp_wrote _ .a src s⟩
  case addb =>
    exact ⟨_, rfl, accOp_addOp_summed .b src s, exec_keepsBut (i := .addb src) rfl, accOp_wrote _ .b src s⟩

/-- Settles O19: the difference of the accumulator and the operand, or of the accumulators. -/
theorem byteSubtractions : Obligations.ByteSubtractions := by
  unfold Obligations.ByteSubtractions
  refine ⟨fun _ => rfl, src8Forms_of_encode (fun _ => rfl) fun _ => rfl,
    src8Forms_of_encode (fun _ => rfl) fun _ => rfl, src8Forms_of_encode (fun _ => rfl) fun _ => rfl,
    src8Forms_of_encode (fun _ => rfl) fun _ => rfl, fun src s => ⟨?sba, ?sbca, ?sbcb, ?suba, ?subb⟩⟩
  case sba => exact ⟨_, rfl, .of_ccr rfl, exec_keepsBut (i := .sba) rfl, .nil rfl rfl rfl⟩
  case sbca =>
    exact ⟨_, rfl, accOp_sbcOp_subtracted .a src s, exec_keepsBut (i := .sbca src) rfl, accOp_wrote _ .a src s⟩
  case sbcb =>
    exact ⟨_, rfl, accOp_sbcOp_subtracted .b src s, exec_keepsBut (i := .sbcb src) rfl, accOp_wrote _ .b src s⟩
  case suba =>
    exact ⟨_, rfl, accOp_subOp_subtracted .a src s, exec_keepsBut (i := .suba src) rfl, accOp_wrote _ .a src s⟩
  case subb =>
    exact ⟨_, rfl, accOp_subOp_subtracted .b src s, exec_keepsBut (i := .subb src) rfl, accOp_wrote _ .b src s⟩

/-- Settles O20: the difference is formed for its flags. -/
theorem byteCompares : Obligations.ByteCompares := by
  unfold Obligations.ByteCompares
  refine ⟨fun _ => rfl, src8Forms_of_encode (fun _ => rfl) fun _ => rfl,
    src8Forms_of_encode (fun _ => rfl) fun _ => rfl, fun src s => ⟨?cba, ?cmpa, ?cmpb⟩⟩
  case cba => exact ⟨_, _, rfl, .of_ccr rfl, exec_keepsBut (i := .cba) rfl, .nil rfl rfl rfl⟩
  case cmpa =>
    exact ⟨_, _, rfl, accTest_subOp_subtracted .a src s, exec_keepsBut (i := .cmpa src) rfl,
      accTest_wrote _ .a src s⟩
  case cmpb =>
    exact ⟨_, _, rfl, accTest_subOp_subtracted .b src s, exec_keepsBut (i := .cmpb src) rfl,
      accTest_wrote _ .b src s⟩

/-! ## Sixteen bits -/

section
variable (k : Reg16) (src : Src16) (s : State)

theorem wordOp_add16Op_summed :
    Summed16 (getReg16 k s) (operand16 src s) (getReg16 k (wordOp add16Op k src s)) (wordOp add16Op k src s) := by
  rw [getReg16_wordOp]
  exact .of_ccr (ccr_wordOp add16Op k src s)

theorem wordOp_sub16Op_subtracted :
    Subtracted16 (getReg16 k s) (operand16 src s) (getReg16 k (wordOp sub16Op k src s))
      (wordOp sub16Op k src s) := by
  rw [getReg16_wordOp]
  exact .of_ccr (ccr_wordOp sub16Op k src s)

theorem wordTest_sub16Op_subtracted :
    Subtracted16 (getReg16 k s) (operand16 src s) (sub16 (getReg16 k s) (operand16 src s)).r
      (wordTest sub16Op k src s) := .of_ccr (ccr_wordTest sub16Op k src s)

end

/-- Settles O21: the sum or the difference in D; the compares form the difference for its flags. -/
theorem wordArithmetic : Obligations.WordArithmetic := by
  unfold Obligations.WordArithmetic
  refine ⟨src16Forms_of_encode (fun _ => rfl) fun _ => rfl, src16Forms_of_encode (fun _ => rfl) fun _ => rfl,
    src16Forms_of_encode (fun _ => rfl) fun _ => rfl, src16Forms_of_encode (fun _ => rfl) fun _ => rfl,
    src16Forms_of_encode (fun _ => rfl) fun _ => rfl, fun src s => ⟨?addd, ?subd, ?cpd, ?cpx, ?cpy⟩⟩
  case addd =>
    exact ⟨_, rfl, wordOp_add16Op_summed .d src s, exec_keepsBut (i := .addd src) rfl, wordOp_wrote _ .d src s⟩
  case subd =>
    exact ⟨_, rfl, wordOp_sub16Op_subtracted .d src s, exec_keepsBut (i := .subd src) rfl,
      wordOp_wrote _ .d src s⟩
  case cpd =>
    exact ⟨_, _, rfl, wordTest_sub16Op_subtracted .d src s, exec_keepsBut (i := .cpd src) rfl,
      wordTest_wrote _ .d src s⟩
  case cpx =>
    exact ⟨_, _, rfl, wordTest_sub16Op_subtracted .x src s, exec_keepsBut (i := .cpx src) rfl,
      wordTest_wrote _ .x src s⟩
  case cpy =>
    exact ⟨_, _, rfl, wordTest_sub16Op_subtracted .y src s, exec_keepsBut (i := .cpy src) rfl,
      wordTest_wrote _ .y src s⟩

end Sys2Proof.Vocabulary

/-! The comparison branches after a difference: Z, C and N xor V say how the two numbers stand to each other, and each
branch tests one of the relations (41_arithmetic.md R299 (c); 44_branch_jump.md R410, R411). -/

namespace Sys2Proof.Vocabulary

open Sys2Proof.Machine

/-! ## What a difference says of its operands -/

/-- The flags say how r stands to m: Z equal, C below as unsigned numbers, N xor V below as signed numbers
(41_arithmetic.md R299 (c)). -/
def FlagsCompare {w : Nat} (r m : BitVec w) (ccr : Byte) : Prop :=
  flagZ ccr = decide (r = m) ∧ flagC ccr = decide (r.toNat < m.toNat) ∧
    (flagN ccr ^^ flagV ccr) = decide (r.toInt < m.toInt)

/-- A difference of bytes without borrow in compares them: where it overflows, its sign is the wrong one. -/
theorem Subtracted8.flagsCompare {a m r : Byte} {t : State} (h : Subtracted8 a m false r t) :
    FlagsCompare a m t.ccr := by
  obtain ⟨hr, ⟨hN, hZ⟩, hC, hV⟩ := h
  have ha := a.isLt
  have hm := m.isLt
  have hlt := r.isLt
  rw [Bool.toNat_false] at hr hC hV
  refine ⟨?equal, hC, ?signed⟩
  case equal =>
    have hzero : r.toNat = 0 ↔ a.toNat = m.toNat := by omega
    rw [hZ, decide_eq_decide, ← BitVec.toNat_inj, ← BitVec.toNat_inj]
    exact hzero
  case signed =>
    have hsign : bit r 7 = decide (128 ≤ r.toNat) := (BitVec.msb_eq_getLsbD_last r).symm.trans (msb8 r)
    rw [hN, hV, hsign, overflows8, toInt8 a, toInt8 m, Bool.eq_iff_iff]
    simp only [bne_iff_ne, ne_eq, decide_eq_decide, decide_eq_true_eq]
    split <;> split <;> omega

theorem Subtracted16.flagsCompare {a m r : Word} {t : State} (h : Subtracted16 a m r t) :
    FlagsCompare a m t.ccr := by
  obtain ⟨hr, ⟨hN, hZ⟩, hC, hV⟩ := h
  have ha := a.isLt
  have hm := m.isLt
  have hlt := r.isLt
  refine ⟨?equal, hC, ?signed⟩
  case equal =>
    have hzero : r.toNat = 0 ↔ a.toNat = m.toNat := by omega
    rw [hZ, decide_eq_decide, ← BitVec.toNat_inj, ← BitVec.toNat_inj]
    exact hzero
  case signed =>
    have hsign : r.getLsbD 15 = decide (32768 ≤ r.toNat) := (BitVec.msb_eq_getLsbD_last r).symm.trans (msb16 r)
    rw [hN, hV, hsign, overflows16, toInt16 a, toInt16 m, Bool.eq_iff_iff]
    simp only [bne_iff_ne, ne_eq, decide_eq_decide, decide_eq_true_eq]
    split <;> split <;> omega

/-! ## What each branch tests -/

section
variable {w : Nat} {r m : BitVec w} {t : State}

/-- A branch whose test is the relation. -/
theorem takenWhen_of_branchIf {i : Instr} {test relation : Bool} {rr : Byte}
    (hexec : exec i t = .next (branchIf test rr t)) (htest : test = relation) : TakenWhen i relation rr t :=
  htest ▸ hexec

/-- Each of the ten branches tests its relation: equality by Z, order of unsigned numbers by C, of signed numbers by
N xor V, and the weak and the opposite orders with Z or by negation. -/
theorem FlagsCompare.branches (h : FlagsCompare r m t.ccr) (rr : Byte) :
    TakenWhen (.beq rr) (decide (r = m)) rr t ∧ TakenWhen (.bne rr) (decide (r ≠ m)) rr t ∧
    TakenWhen (.blo rr) (decide (r.toNat < m.toNat)) rr t ∧
    TakenWhen (.bhs rr) (decide (m.toNat ≤ r.toNat)) rr t ∧
    TakenWhen (.bhi rr) (decide (m.toNat < r.toNat)) rr t ∧
    TakenWhen (.bls rr) (decide (r.toNat ≤ m.toNat)) rr t ∧
    TakenWhen (.blt rr) (decide (r.toInt < m.toInt)) rr t ∧
    TakenWhen (.bge rr) (decide (m.toInt ≤ r.toInt)) rr t ∧
    TakenWhen (.bgt rr) (decide (m.toInt < r.toInt)) rr t ∧
    TakenWhen (.ble rr) (decide (r.toInt ≤ m.toInt)) rr t := by
  obtain ⟨hequal, hbelow, hless⟩ := h
  have hatLeast : (!flagC t.ccr) = decide (m.toNat ≤ r.toNat) := by
    rw [hbelow, ← decide_not, decide_eq_decide, Nat.not_lt]
  have hatMost : (flagC t.ccr || flagZ t.ccr) = decide (r.toNat ≤ m.toNat) := by
    rw [hbelow, hequal, ← Bool.decide_or, decide_eq_decide, ← BitVec.toNat_inj, Nat.le_iff_lt_or_eq]
  have hnotLess : (!(flagN t.ccr ^^ flagV t.ccr)) = decide (m.toInt ≤ r.toInt) := by
    rw [hless, ← decide_not, decide_eq_decide, Int.not_lt]
  have hnotMore : (flagZ t.ccr || (flagN t.ccr ^^ flagV t.ccr)) = decide (r.toInt ≤ m.toInt) := by
    rw [hless, hequal, ← Bool.decide_or, decide_eq_decide, ← BitVec.toInt_inj, or_comm, Int.le_iff_lt_or_eq]
  refine ⟨takenWhen_of_branchIf rfl hequal, takenWhen_of_branchIf rfl ?bne, takenWhen_of_branchIf rfl hbelow,
    takenWhen_of_branchIf rfl hatLeast, takenWhen_of_branchIf rfl ?bhi, takenWhen_of_branchIf rfl hatMost,
    takenWhen_of_branchIf rfl hless, takenWhen_of_branchIf rfl hnotLess, takenWhen_of_branchIf rfl ?bgt,
    takenWhen_of_branchIf rfl hnotMore⟩
  case bne => rw [hequal, ← decide_not]
  case bhi => rw [hatMost, ← decide_not, decide_eq_decide, Nat.not_le]
  case bgt => rw [hnotMore, ← decide_not, decide_eq_decide, Int.not_le]

end

theorem Subtracted8.branches {a m r : Byte} {t : State} (h : Subtracted8 a m false r t) :
    BranchesAsCompared8 a m t := h.flagsCompare.branches

theorem Subtracted16.branches {a m r : Word} {t : State} (h : Subtracted16 a m r t) :
    BranchesAsCompared16 a m t := h.flagsCompare.branches

/-- Settles O39: each of these instructions leaves the flags of the difference of its register and its operand. -/
theorem compareThenBranch : Obligations.CompareThenBranch := by
  unfold Obligations.CompareThenBranch
  refine ⟨fun src s => ⟨?cba, ?cmpa, ?cmpb, ?sba, ?suba, ?subb⟩, fun src s => ⟨?cpd, ?cpx, ?cpy, ?subd⟩⟩
  case cba => exact ⟨_, rfl, (Subtracted8.of_ccr rfl).branches⟩
  case cmpa => exact ⟨_, rfl, (accTest_subOp_subtracted .a src s).branches⟩
  case cmpb => exact ⟨_, rfl, (accTest_subOp_subtracted .b src s).branches⟩
  case sba => exact ⟨_, rfl, (Subtracted8.of_ccr rfl).branches⟩
  case suba => exact ⟨_, rfl, (accOp_subOp_subtracted .a src s).branches⟩
  case subb => exact ⟨_, rfl, (accOp_subOp_subtracted .b src s).branches⟩
  case cpd => exact ⟨_, rfl, (wordTest_sub16Op_subtracted .d src s).branches⟩
  case cpx => exact ⟨_, rfl, (wordTest_sub16Op_subtracted .x src s).branches⟩
  case cpy => exact ⟨_, rfl, (wordTest_sub16Op_subtracted .y src s).branches⟩
  case subd => exact ⟨_, rfl, (wordOp_sub16Op_subtracted .d src s).branches⟩

end Sys2Proof.Vocabulary

/-! Clears, increments and decrements, of the index registers and of bytes (41_arithmetic.md R251, R252, R259 to R261,
R273 to R278, R282 to R287). -/

namespace Sys2Proof.Vocabulary

open Sys2Proof.Machine

/-- Settles O17: B counts from 0 to 255; INX, INY, DEX and DEY write Z alone. -/
theorem indexArithmetic : Obligations.IndexArithmetic := by
  unfold Obligations.IndexArithmetic
  refine ⟨fun _ => rfl, fun _ => rfl, fun _ => rfl, fun _ => rfl, fun _ => rfl, fun _ => rfl,
    fun s => ⟨?abx, ?aby, ?inx, ?iny, ?dex, ?dey⟩⟩
  case abx => exact ⟨_, rfl, add_zext16_toNat s.x s.b, setX_keepsBut _ s, .nil rfl rfl rfl⟩
  case aby => exact ⟨_, rfl, add_zext16_toNat s.y s.b, setY_keepsBut _ s, .nil rfl rfl rfl⟩
  case inx =>
    exact ⟨_, rfl, add_one_toNat s.x, flagZ_putZ _ _, exec_keepsBut (i := .inx) rfl, .nil rfl rfl rfl⟩
  case iny =>
    exact ⟨_, rfl, add_one_toNat s.y, flagZ_putZ _ _, exec_keepsBut (i := .iny) rfl, .nil rfl rfl rfl⟩
  case dex =>
    exact ⟨_, rfl, sub_one_toNat s.x, flagZ_putZ _ _, exec_keepsBut (i := .dex) rfl, .nil rfl rfl rfl⟩
  case dey =>
    exact ⟨_, rfl, sub_one_toNat s.y, flagZ_putZ _ _, exec_keepsBut (i := .dey) rfl, .nil rfl rfl rfl⟩

/-! ## Clears -/

/-- CLR writes four constants into the CCR (41_arithmetic.md R259). -/
theorem clrOp_flags (ccr m : Byte) :
    flagN (clrOp ccr m).2 = false ∧ flagZ (clrOp ccr m).2 = true ∧ flagV (clrOp ccr m).2 = false ∧
      flagC (clrOp ccr m).2 = false := by
  simp [clrOp]

/-- Settles O22: zero is written whatever was there, and the flags are constants. -/
theorem clears : Obligations.Clears := by
  unfold Obligations.Clears
  refine ⟨noDirForms_of_encode (dir := []) (fun m => by cases m <;> rfl) fun _ => rfl, fun _ => rfl, fun _ => rfl,
    fun m s hwf => ⟨?clr, ?clra, ?clrb⟩⟩
  case clr =>
    obtain ⟨hN, hZ, hV, hC⟩ := clrOp_flags s.ccr (readByte (effAddr m.toMem s) s).1
    rw [← ccr_memUnary clrOp m.toMem s] at hN hZ hV hC
    exact ⟨_, rfl, memUnary_wrote clrOp hwf m.toMem, hN, hZ, hV, hC, exec_keepsBut (i := .clr m) rfl⟩
  case clra =>
    obtain ⟨hN, hZ, hV, hC⟩ := clrOp_flags s.ccr s.a
    exact ⟨_, rfl, rfl, hN, hZ, hV, hC, exec_keepsBut (i := .clra) rfl, accUnary_wrote clrOp .a s⟩
  case clrb =>
    obtain ⟨hN, hZ, hV, hC⟩ := clrOp_flags s.ccr s.b
    exact ⟨_, rfl, rfl, hN, hZ, hV, hC, exec_keepsBut (i := .clrb) rfl, accUnary_wrote clrOp .b s⟩

/-! ## Increments and decrements -/

theorem byte_add_one_toNat (v : Byte) : (v + 1).toNat = (v.toNat + 1) % 256 := BitVec.toNat_add v 1

/-- One less, modulo 256: below 0 comes 255. -/
theorem byte_sub_one_toNat (v : Byte) : ((v - 1).toNat : Int) = ((v.toNat : Int) - 1) % 256 := by
  have hlt := v.isLt
  have hsub : (v - 1).toNat = (255 + v.toNat) % 256 := BitVec.toNat_sub v 1
  omega

theorem NZ8Of.of_ccr {r ccr : Byte} {v : Bool} {t : State} (h : t.ccr = putV (nz8 ccr r) v) : NZ8Of r t := by
  rw [NZ8Of, h]
  simp

theorem flagV_of_ccr {r ccr : Byte} {v : Bool} {t : State} (h : t.ccr = putV (nz8 ccr r) v) : flagV t.ccr = v := by
  rw [h, flagV_putV]

/-- Settles O24: one more or one less modulo 256, and V at the one operand whose result changes sign by overflow. -/
theorem incrementsAndDecrements : Obligations.IncrementsAndDecrements := by
  unfold Obligations.IncrementsAndDecrements
  refine ⟨noDirForms_of_encode (dir := []) (fun m => by cases m <;> rfl) fun _ => rfl, fun _ => rfl, fun _ => rfl,
    noDirForms_of_encode (dir := []) (fun m => by cases m <;> rfl) fun _ => rfl, fun _ => rfl, fun _ => rfl,
    fun m s hwf => ⟨?inc, ?inca, ?incb, ?dec, ?deca, ?decb⟩⟩
  case inc =>
    have hccr := ccr_memUnary incOp m.toMem s
    exact ⟨_, _, rfl, byte_add_one_toNat _, .of_ccr hccr, flagV_of_ccr hccr, memUnary_wrote incOp hwf m.toMem,
      exec_keepsBut (i := .inc m) rfl⟩
  case inca =>
    exact ⟨_, rfl, byte_add_one_toNat s.a, .of_ccr rfl, flagV_of_ccr rfl, exec_keepsBut (i := .inca) rfl,
      accUnary_wrote incOp .a s⟩
  case incb =>
    exact ⟨_, rfl, byte_add_one_toNat s.b, .of_ccr rfl, flagV_of_ccr rfl, exec_keepsBut (i := .incb) rfl,
      accUnary_wrote incOp .b s⟩
  case dec =>
    have hccr := ccr_memUnary decOp m.toMem s
    exact ⟨_, _, rfl, byte_sub_one_toNat _, .of_ccr hccr, flagV_of_ccr hccr, memUnary_wrote decOp hwf m.toMem,
      exec_keepsBut (i := .dec m) rfl⟩
  case deca =>
    exact ⟨_, rfl, byte_sub_one_toNat s.a, .of_ccr rfl, flagV_of_ccr rfl, exec_keepsBut (i := .deca) rfl,
      accUnary_wrote decOp .a s⟩
  case decb =>
    exact ⟨_, rfl, byte_sub_one_toNat s.b, .of_ccr rfl, flagV_of_ccr rfl, exec_keepsBut (i := .decb) rfl,
      accUnary_wrote decOp .b s⟩

end Sys2Proof.Vocabulary

/-! Multiplication and division (41_arithmetic.md R280, R281, R288). -/

namespace Sys2Proof.Vocabulary

open Sys2Proof.Machine

/-! ## The product -/

/-- The product of two bytes is at most 65025, so that 16 bits hold it (41_arithmetic.md R288). -/
theorem mulOp_toNat (ccr a b : Byte) : (mulOp ccr a b).1.toNat = a.toNat * b.toNat := by
  have hle : a.toNat * b.toNat ≤ 255 * 255 := Nat.mul_le_mul (Nat.le_of_lt_succ a.isLt) (Nat.le_of_lt_succ b.isLt)
  exact Nat.mod_eq_of_lt (by omega)

theorem flagC_mulOp (ccr a b : Byte) : flagC (mulOp ccr a b).2 = (mulOp ccr a b).1.getLsbD 7 := by
  have hlow (v : Word) : bit (lo v) 7 = v.getLsbD 7 := by simp [bit, lo]
  rw [mulOp, flagC_putC, hlow]

/-- Settles O25: D is the product, C its bit 7. -/
theorem multiply : Obligations.Multiply := by
  unfold Obligations.Multiply
  refine ⟨fun _ => rfl, fun s => ⟨_, rfl, ?product, ?carry, exec_keepsBut (i := .mul) rfl, .nil rfl rfl rfl⟩⟩
  case product => exact (congrArg BitVec.toNat (cat_hi_lo _)).trans (mulOp_toNat s.ccr s.a s.b)
  case carry => exact (flagC_mulOp s.ccr s.a s.b).trans (congrArg (BitVec.getLsbD · 7) (cat_hi_lo _)).symm

/-! ## The divisions -/

section
variable (free : Word) (o : Division) (s : State)

theorem divideInto_x : (divideInto free o s).x = o.quotient := by
  rw [divideInto_eq]
  cases o.remainder <;> rfl

theorem divideInto_ccr : (divideInto free o s).ccr = o.ccr := by
  rw [divideInto_eq]
  cases o.remainder <;> rfl

theorem divideInto_sameMemory : SameMemory s (divideInto free o s) := by
  rw [divideInto_eq]
  cases o.remainder <;> exact ⟨fun _ => rfl, rfl⟩

/-- Where the remainder is determined it is in D. -/
theorem divideInto_d {r : Word} (h : o.remainder = some r) :
    cat (divideInto free o s).a (divideInto free o s).b = r := by
  rw [divideInto_eq, h]
  exact cat_hi_lo r

/-- Z is of the quotient in X; V and C are as the operation gives them. -/
theorem divideInto_flags {ccr : Byte} {v c : Bool}
    (h : o.ccr = putC (putV (putZ ccr (decide (o.quotient = 0))) v) c) :
    flagZ (divideInto free o s).ccr = decide ((divideInto free o s).x = 0) ∧
      flagV (divideInto free o s).ccr = v ∧ flagC (divideInto free o s).ccr = c := by
  rw [divideInto_ccr, divideInto_x, h]
  simp

end

/-- A quotient below 65536 and its remainder are held by 16 bits. -/
theorem ofNat_quotient_remainder {n d : Nat} (hpos : 0 < d) (hd : d < 65536) (hn : n < d * 65536) :
    n = (BitVec.ofNat 16 (n / d)).toNat * d + (BitVec.ofNat 16 (n % d)).toNat ∧
      (BitVec.ofNat 16 (n % d)).toNat < d := by
  have hquotient : n / d < 65536 := Nat.div_lt_of_lt_mul hn
  have hremainder : n % d < d := Nat.mod_lt n hpos
  rw [BitVec.toNat_ofNat, BitVec.toNat_ofNat, Nat.mod_eq_of_lt hquotient, Nat.mod_eq_of_lt (hremainder.trans hd)]
  exact ⟨(Nat.div_add_mod' n d).symm, hremainder⟩

/-- A division of n by d that 16 bits hold: n is X times d and D, D less than d. -/
theorem divideInto_divides {n : Nat} {d free : Word} {o : Division} {s : State} (hd : d ≠ 0)
    (hn : n < d.toNat * 65536) (hquotient : o.quotient = BitVec.ofNat 16 (n / d.toNat))
    (hremainder : o.remainder = some (BitVec.ofNat 16 (n % d.toNat))) :
    n = (divideInto free o s).x.toNat * d.toNat + (cat (divideInto free o s).a (divideInto free o s).b).toNat ∧
      (cat (divideInto free o s).a (divideInto free o s).b).toNat < d.toNat := by
  have hpos : 0 < d.toNat := BitVec.toNat_pos_of_ne_zero hd
  rw [divideInto_x, divideInto_d free o s hremainder, hquotient]
  exact ofNat_quotient_remainder hpos d.isLt hn

/-- Settles O26: by cases on whether the quotient is forced; where it is not, 16 bits hold it, for FDIV because the
numerator is less than the denominator. -/
theorem divisions : Obligations.Divisions := by
  unfold Obligations.Divisions
  refine ⟨fun _ => rfl, fun _ => rfl, fun s => ⟨⟨_, rfl, ?fdiv, ?_⟩, ⟨_, rfl, ?idiv, ?_⟩⟩⟩
  case fdiv =>
    split
    next hforced => exact (divideInto_x _ _ s).trans (if_pos hforced)
    next hfree =>
      obtain ⟨hzero, hless⟩ := not_or.1 hfree
      exact divideInto_divides hzero (Nat.mul_lt_mul_of_pos_right (Nat.lt_of_not_le hless) (by decide))
        (if_neg hfree) (if_neg hfree)
  case idiv =>
    split
    next hforced => exact (divideInto_x _ _ s).trans (if_pos hforced)
    next hzero =>
      have hpos : 0 < s.x.toNat := BitVec.toNat_pos_of_ne_zero hzero
      exact divideInto_divides hzero (s.d.isLt.trans_le (Nat.le_mul_of_pos_left _ hpos))
        (if_neg hzero) (if_neg hzero)
  · obtain ⟨hZ, hV, hC⟩ := divideInto_flags (Config.fdivRemainder s.draws) (fdivOp s.ccr s.d s.x) s rfl
    exact ⟨hZ, hV, hC, exec_keepsBut (i := .fdiv) rfl, divideInto_sameMemory _ _ s⟩
  · obtain ⟨hZ, hV, hC⟩ := divideInto_flags (Config.idivRemainder s.draws) (idivOp s.ccr s.d s.x) s rfl
    exact ⟨hZ, hV, hC, exec_keepsBut (i := .idiv) rfl, divideInto_sameMemory _ _ s⟩

end Sys2Proof.Vocabulary

/-! Decimal adjust (41_arithmetic.md R272): which digits are corrected, and decimal addition by a byte addition then
DAA. -/

namespace Sys2Proof.Vocabulary

open Sys2Proof.Machine

/-! ## The correction -/

/-- Whether DAA corrects the low digit of the byte a, H being h. -/
def fixesLow (h : Bool) (a : Nat) : Bool := h || decide (9 < a % 16)

/-- Whether DAA corrects the high digit of the byte a, C being c. -/
def fixesHigh (c : Bool) (a : Nat) : Bool :=
  c || decide (9 < a / 16) || (decide (9 ≤ a / 16) && decide (9 < a % 16))

theorem daaOp_result (ccr a : Byte) (v : Bool) : (daaOp ccr a v).1 =
    a + ((if fixesLow (flagH ccr) a.toNat then 0x06 else 0) +
      (if fixesHigh (flagC ccr) a.toNat then 0x60 else 0)) := by
  rw [fixesLow, fixesHigh, ← and_low, ← shift_high]
  rfl

/-- DAA's result as a number: 6 is added for each digit corrected, in its place. -/
theorem daaOp_toNat (ccr a : Byte) (v : Bool) : (daaOp ccr a v).1.toNat =
    (a.toNat + (if fixesLow (flagH ccr) a.toNat then 6 else 0) +
      (if fixesHigh (flagC ccr) a.toNat then 96 else 0)) % 256 := by
  have hadded (low high : Bool) : ((if low then 0x06 else 0) + (if high then 0x60 else 0) : Byte).toNat =
      (if low then 6 else 0) + (if high then 96 else 0) := by
    cases low <;> cases high <;> rfl
  rw [daaOp_result, BitVec.toNat_add, hadded, Nat.add_assoc]

/-- DAA sets C where it corrects the high digit, and never clears it. -/
theorem flagC_daaOp (ccr a : Byte) (v : Bool) :
    flagC (daaOp ccr a v).2 = (flagC ccr || fixesHigh (flagC ccr) a.toNat) := by
  rw [fixesHigh, ← and_low, ← shift_high]
  exact flagC_nzvc8 _ _ _ _

theorem nz8Of_daaOp (ccr a : Byte) (v : Bool) {t : State} (h : t.ccr = (daaOp ccr a v).2) :
    NZ8Of (daaOp ccr a v).1 t :=
  ⟨h ▸ flagN_nzvc8 _ _ _ _, h ▸ flagZ_nzvc8 _ _ _ _⟩

/-- Settles O27: both digits corrected, and the flags of the result. -/
theorem decimalAdjust : Obligations.DecimalAdjust := by
  unfold Obligations.DecimalAdjust
  exact ⟨fun _ => rfl, fun s => ⟨_, rfl,
    ⟨daaOp_toNat s.ccr s.a (Config.daaV s.draws), flagC_daaOp s.ccr s.a (Config.daaV s.draws)⟩,
    nz8Of_daaOp s.ccr s.a (Config.daaV s.draws) rfl, exec_keepsBut (i := .daa) rfl, fun _ => rfl, rfl⟩⟩

/-! ## Decimal addition

Two packed decimal bytes are added digit by digit: the low digits and the carry make `low`, at most 19, and the high
digits make `high`, at most 18. The byte sum is then 16 high + low where the decimal sum is 10 high + low. -/

section
variable {high low : Nat}

/-- The low digit is corrected exactly when the low digits make ten or more; from 16 on it is H that says so. -/
theorem fixesLow_digits (hlow : low ≤ 19) :
    fixesLow (decide (15 < low)) ((16 * high + low) % 256) = decide (9 < low) := by
  rw [fixesLow, ← Bool.decide_or, decide_eq_decide]
  omega

/-- The high digit is corrected exactly when the decimal sum is 100 or more. -/
theorem fixesHigh_digits (hhigh : high ≤ 18) (hlow : low ≤ 19) :
    fixesHigh (decide (255 < 16 * high + low)) ((16 * high + low) % 256) = decide (100 ≤ 10 * high + low) := by
  rw [fixesHigh, ← Bool.decide_and, ← Bool.decide_or, ← Bool.decide_or, decide_eq_decide]
  omega

/-- The low digit corrected: the ones, and a ten carried into the high digit. -/
theorem corrected_low (hlow : low ≤ 19) :
    16 * high + low + (if 9 < low then 6 else 0) = 16 * ((10 * high + low) / 10) + (10 * high + low) % 10 := by
  split <;> omega

/-- The high digit corrected: the tens, and the hundreds carried out of the byte. -/
theorem corrected_high {sum : Nat} (hsum : sum ≤ 199) :
    (16 * (sum / 10) + sum % 10 + (if 100 ≤ sum then 96 else 0)) % 256 = sum % 100 / 10 * 16 + sum % 10 := by
  split <;> omega

/-- With both corrections the byte sum is the packed decimal sum, its hundreds left out. -/
theorem corrected_digits (hhigh : high ≤ 18) (hlow : low ≤ 19) :
    ((16 * high + low) % 256 + (if 9 < low then 6 else 0) + (if 100 ≤ 10 * high + low then 96 else 0)) % 256 =
      (10 * high + low) % 100 / 10 * 16 + (10 * high + low) % 100 % 10 := by
  have hsum : 10 * high + low ≤ 199 := by omega
  rw [Nat.add_assoc, Nat.mod_add_mod, ← Nat.add_assoc, corrected_low hlow, corrected_high hsum,
    Nat.mod_mod_of_dvd _ (by decide)]

end

theorem bcd_toNat {n : Nat} (h : n < 100) : (bcd n).toNat = n / 10 * 16 + n % 10 :=
  Nat.mod_eq_of_lt (by omega)

/-- A byte sum of two packed decimal bytes, with its half carry and its carry, in the digits added. -/
theorem Summed8.digits {m n : Nat} {c : Bool} {r : Byte} {t : State} (h : Summed8 (bcd m) (bcd n) c r t)
    (hm : m < 100) (hn : n < 100) :
    ∃ high low, high ≤ 18 ∧ low ≤ 19 ∧ m + n + c.toNat = 10 * high + low ∧
      r.toNat = (16 * high + low) % 256 ∧ flagH t.ccr = decide (15 < low) ∧
      flagC t.ccr = decide (255 < 16 * high + low) := by
  obtain ⟨hsum, -, hcarry, hhalf, -⟩ := h
  have hc : c.toNat ≤ 1 := Bool.toNat_le c
  rw [bcd_toNat hm, bcd_toNat hn] at hsum hcarry hhalf
  refine ⟨m / 10 + n / 10, m % 10 + n % 10 + c.toNat, by omega, by omega, by omega, ?_, ?_, ?_⟩
  · rw [hsum]; omega
  · rw [hhalf, decide_eq_decide]; omega
  · rw [hcarry, decide_eq_decide]; omega

/-- DAA after the sum of two packed decimal bytes and a carry makes the packed decimal sum, its hundreds in C. -/
theorem exec_daa_of_summed {m n : Nat} {c : Bool} {t : State} (hm : m < 100) (hn : n < 100)
    (h : Summed8 (bcd m) (bcd n) c t.a t) :
    ∃ u, exec .daa t = .next u ∧ u.a = bcd ((m + n + c.toNat) % 100) ∧
      flagC u.ccr = decide (100 ≤ m + n + c.toNat) := by
  obtain ⟨high, low, hhigh, hlow, hdecimal, hsum, hhalf, hcarry⟩ := h.digits hm hn
  have hfix : fixesHigh (flagC t.ccr) t.a.toNat = decide (100 ≤ 10 * high + low) := by
    rw [hcarry, hsum, fixesHigh_digits hhigh hlow]
  rw [hdecimal]
  refine ⟨_, rfl, BitVec.eq_of_toNat_eq ((daaOp_toNat t.ccr t.a (Config.daaV t.draws)).trans ?result),
    (flagC_daaOp t.ccr t.a (Config.daaV t.draws)).trans ?hundreds⟩
  case result =>
    rw [hfix, hhalf, hsum, fixesLow_digits hlow, bcd_toNat (Nat.mod_lt _ (by decide))]
    simp only [decide_eq_true_eq]
    exact corrected_digits hhigh hlow
  case hundreds =>
    rw [hfix, hcarry, ← Bool.decide_or, decide_eq_decide]
    omega

theorem exec_aba_summed (s : State) : ∃ t, exec .aba s = .next t ∧ Summed8 s.a s.b false t.a t :=
  ⟨_, rfl, .of_ccr rfl⟩

/-- Settles O28: each addition leaves the sum of the two bytes for DAA. -/
theorem decimalAdditionExact : Obligations.DecimalAdditionExact := by
  unfold Obligations.DecimalAdditionExact
  intro m n s hm hn ha
  refine ⟨fun src hsrc => ?adda, fun src hsrc => ?adca, fun hb => ?aba⟩
  case adda =>
    have hsum : Summed8 s.a (operand8 src s) false _ _ := accOp_addOp_summed .a src s
    rw [ha, hsrc] at hsum
    exact ⟨_, (exec_daa_of_summed hm hn hsum).imp fun _ hdaa => ⟨rfl, hdaa⟩⟩
  case adca =>
    have hsum : Summed8 s.a (operand8 src s) (flagC s.ccr) _ _ := accOp_adcOp_summed .a src s
    rw [ha, hsrc] at hsum
    exact ⟨_, (exec_daa_of_summed hm hn hsum).imp fun _ hdaa => ⟨rfl, hdaa⟩⟩
  case aba =>
    obtain ⟨t, hexec, hsum⟩ := exec_aba_summed s
    rw [ha, hb] at hsum
    exact ⟨t, (exec_daa_of_summed hm hn hsum).imp fun _ hdaa => ⟨hexec, hdaa⟩⟩

end Sys2Proof.Vocabulary

/-! Logic, bit tests, bit sets and clears, the flag instructions, complements and negations (42_logic_bit.md R330 to
R348; 46_absent_from_source.md R481 to R483; 41_arithmetic.md R289 to R291). -/

namespace Sys2Proof.Machine

/-! ## The bits of a result -/

theorem bit_and (u v : Byte) (i : Nat) : bit (u &&& v) i = (bit u i && bit v i) := BitVec.getLsbD_and

theorem bit_or (u v : Byte) (i : Nat) : bit (u ||| v) i = (bit u i || bit v i) := BitVec.getLsbD_or

theorem bit_xor (u v : Byte) (i : Nat) : bit (u ^^^ v) i = (bit u i ^^ bit v i) := BitVec.getLsbD_xor

/-- A byte has no bit above 7, and so neither has its complement. -/
theorem bit_not (v : Byte) {i : Nat} (hi : i < 8) : bit (~~~v) i = !bit v i := by
  simp [bit, hi]

/-- BSET makes the bits of the mask 1 (42_logic_bit.md R335). -/
theorem bit_bsetOp (mm ccr m : Byte) (i : Nat) :
    bit (bsetOp mm ccr m).1 i = if bit mm i then true else bit m i := by
  rw [bsetOp, bit_or]
  cases bit mm i <;> simp

/-- BCLR makes the bits of the mask 0 (42_logic_bit.md R332). -/
theorem bit_bclrOp (mm ccr m : Byte) {i : Nat} (hi : i < 8) :
    bit (bclrOp mm ccr m).1 i = if bit mm i then false else bit m i := by
  rw [bclrOp, bit_and, bit_not mm hi]
  cases bit mm i <;> simp

/-! ## Complement and negation -/

theorem comOp_toNat (ccr m : Byte) : (comOp ccr m).1.toNat = 255 - m.toNat := BitVec.toNat_not

theorem sub8_zero_left_result (m : Byte) : (sub8 0 m false).r = -m := by
  have hsub : ((sub8 0 m false).r.toNat : Int) = (0 - m.toNat - 0) % 256 := sub8_result 0 m false
  have hneg := BitVec.toNat_neg m
  have hm := m.isLt
  exact BitVec.eq_of_toNat_eq (by omega)

/-- $80 alone has no negation in eight signed bits. -/
theorem sub8_zero_left_overflow (m : Byte) : (sub8 0 m false).v = decide (-m = 0x80) := by
  have hover : (sub8 0 m false).v = decide (0 - m.toInt - 0 < -128 ∨ 127 < 0 - m.toInt - 0) :=
    sub8_overflow 0 m false
  have h80 : -m = 0x80 ↔ (-m).toNat = 128 := BitVec.toNat_inj.symm
  have hneg := BitVec.toNat_neg m
  have hm := m.isLt
  rw [hover, decide_eq_decide, h80, toInt8]
  split <;> omega

theorem sub8_zero_left_borrow (m : Byte) : (sub8 0 m false).bw = decide (-m ≠ 0) := by
  have hborrow : (sub8 0 m false).bw = decide (0 < m.toNat + 0) := sub8_borrow 0 m false
  have h0 : -m = 0 ↔ (-m).toNat = 0 := BitVec.toNat_inj.symm
  have hneg := BitVec.toNat_neg m
  have hm := m.isLt
  rw [hborrow, decide_eq_decide, ne_eq, h0]
  omega

/-- NEG is the subtraction of the operand from 0, with its flags (41_arithmetic.md R289). -/
theorem negOp_eq_subOp (ccr m : Byte) : negOp ccr m = subOp ccr 0 m := by
  rw [negOp, subOp, sub8_zero_left_result, sub8_zero_left_overflow, sub8_zero_left_borrow]

/-! ## CLI -/

/-- CLI clears I, and the inhibit is set if I was 1 (42_logic_bit.md R337). -/
theorem exec_cli_eq (s : State) : exec .cli s =
    .next ((s.setCcr (putI s.ccr false)).setInhibit (s.inhibit || flagI s.ccr)) := by
  have hset := setCcrInhibiting_eq (putI s.ccr false) s
  rw [flagI_putI, Bool.not_false, Bool.and_true] at hset
  exact congrArg Host.Outcome.next hset

end Sys2Proof.Machine

namespace Sys2Proof.Vocabulary

open Sys2Proof.Machine

/-! ## The flag instructions -/

/-- With I set, only a source that X masks can be served (60_exceptions.md R506). -/
theorem Deliverable.cls_eq_classX {t : State} {r : IntSource} (h : Deliverable t r) (hI : flagI t.ccr = true) :
    r.cls = .classX := by
  obtain ⟨-, -, -, hmask⟩ := h
  cases hcls : r.cls with
  | classX => rfl
  | classI => exact absurd hI (by simp [hmask hcls])

/-- Settles O32: each is one bit of the CCR; CLI's inhibit keeps the interrupt off for the next instruction. -/
theorem flagInstructions : Obligations.FlagInstructions := by
  unfold Obligations.FlagInstructions
  refine ⟨fun _ => rfl, fun _ => rfl, fun _ => rfl, fun _ => rfl, fun _ => rfl, fun _ => rfl,
    fun s => ⟨?clc, ?sec, ?clv, ?sev, ?cli, ?sei⟩⟩
  case clc => exact ⟨_, rfl, flagC_putC _ _, exec_keepsBut (i := .clc) rfl, .nil rfl rfl rfl⟩
  case sec => exact ⟨_, rfl, flagC_putC _ _, exec_keepsBut (i := .sec) rfl, .nil rfl rfl rfl⟩
  case clv => exact ⟨_, rfl, flagV_putV _ _, exec_keepsBut (i := .clv) rfl, .nil rfl rfl rfl⟩
  case sev => exact ⟨_, rfl, flagV_putV _ _, exec_keepsBut (i := .sev) rfl, .nil rfl rfl rfl⟩
  case cli =>
    exact ⟨_, exec_cli_eq s, flagI_putI _ _, rfl,
      fun hI => interruptNow_eq_none.2 (.inl (Bool.or_eq_true_iff.2 (.inr hI))), exec_keepsBut (exec_cli_eq s),
      .nil rfl rfl rfl⟩
  case sei =>
    have hI : flagI (putI s.ccr true) = true := flagI_putI _ _
    exact ⟨_, rfl, hI, fun _ h => h.cls_eq_classX hI, exec_keepsBut (i := .sei) rfl, .nil rfl rfl rfl⟩

/-! ## Logic -/

/-- An operation on an accumulator and an operand that combines them bit by bit and sets the flags of a move
(42_logic_bit.md R330). -/
structure Bitwise (f : Bool → Bool → Bool) (op : Byte → Byte → Byte → Byte × Byte) : Prop where
  bits : ∀ ccr r m i, bit (op ccr r m).1 i = f (bit r i) (bit m i)
  flags : ∀ ccr r m, (op ccr r m).2 = moveFlags8 ccr (op ccr r m).1

theorem andOp_bitwise : Bitwise and andOp := ⟨fun _ => bit_and, fun _ _ _ => rfl⟩

theorem eorOp_bitwise : Bitwise xor eorOp := ⟨fun _ => bit_xor, fun _ _ _ => rfl⟩

theorem orOp_bitwise : Bitwise or orOp := ⟨fun _ => bit_or, fun _ _ _ => rfl⟩

section
variable {f : Bool → Bool → Bool} {op : Byte → Byte → Byte → Byte × Byte} {i : Instr} {src : Src8} {s : State}

/-- The result goes to the accumulator. -/
theorem Bitwise.exec_accOp (h : Bitwise f op) (k : Acc) (hexec : exec i s = .next (accOp op k src s)) :
    ∃ t, exec i s = .next t ∧ (∀ j, j < 8 → bit (getAcc k t) j = f (bit (getAcc k s) j) (bit (operand8 src s) j)) ∧
      Moved8 (getAcc k t) t ∧ KeepsBut (writtenParts i) s t ∧ Wrote [] (afterOperand8 src s) t := by
  refine ⟨_, hexec, fun j _ => ?bits, ?flags, exec_keepsBut hexec, accOp_wrote op k src s⟩
  case bits => rw [getAcc_accOp]; exact h.bits _ _ _ j
  case flags => rw [getAcc_accOp]; exact .of_ccr ((ccr_accOp op k src s).trans (h.flags _ _ _))

/-- The result is formed for its flags. -/
theorem Bitwise.exec_accTest (h : Bitwise f op) (k : Acc) (hexec : exec i s = .next (accTest op k src s)) :
    ∃ t r, exec i s = .next t ∧ (∀ j, j < 8 → bit r j = f (bit (getAcc k s) j) (bit (operand8 src s) j)) ∧
      Moved8 r t ∧ KeepsBut (writtenParts i) s t ∧ Wrote [] (afterOperand8 src s) t :=
  ⟨_, _, hexec, fun j _ => h.bits s.ccr _ _ j, .of_ccr ((ccr_accTest op k src s).trans (h.flags _ _ _)),
    exec_keepsBut hexec, accTest_wrote op k src s⟩

end

/-- Settles O29: three bitwise operations, on each accumulator. -/
theorem logic : Obligations.Logic := by
  unfold Obligations.Logic
  refine ⟨src8Forms_of_encode (fun _ => rfl) fun _ => rfl, src8Forms_of_encode (fun _ => rfl) fun _ => rfl,
    src8Forms_of_encode (fun _ => rfl) fun _ => rfl, src8Forms_of_encode (fun _ => rfl) fun _ => rfl,
    src8Forms_of_encode (fun _ => rfl) fun _ => rfl, src8Forms_of_encode (fun _ => rfl) fun _ => rfl,
    fun src s => ⟨?anda, ?andb, ?eora, ?eorb, ?oraa, ?orab⟩⟩
  case anda => exact andOp_bitwise.exec_accOp (i := .anda src) .a rfl
  case andb => exact andOp_bitwise.exec_accOp (i := .andb src) .b rfl
  case eora => exact eorOp_bitwise.exec_accOp (i := .eora src) .a rfl
  case eorb => exact eorOp_bitwise.exec_accOp (i := .eorb src) .b rfl
  case oraa => exact orOp_bitwise.exec_accOp (i := .oraa src) .a rfl
  case orab => exact orOp_bitwise.exec_accOp (i := .orab src) .b rfl

/-! ## Tests -/

/-- N, Z, V and C together, V cleared: the flags of a move, and C as given. -/
theorem Moved8.of_nzvc8 {r ccr : Byte} {c : Bool} {t : State} (h : t.ccr = nzvc8 ccr r false c) : Moved8 r t :=
  ⟨⟨h ▸ flagN_nzvc8 ccr r false c, h ▸ flagZ_nzvc8 ccr r false c⟩, h ▸ flagV_nzvc8 ccr r false c⟩

/-- Settles O30: BITA and BITB are the AND, formed for its flags; the TST forms clear V and C. -/
theorem bitTestsAndTests : Obligations.BitTestsAndTests := by
  unfold Obligations.BitTestsAndTests
  refine ⟨src8Forms_of_encode (fun _ => rfl) fun _ => rfl, src8Forms_of_encode (fun _ => rfl) fun _ => rfl,
    noDirForms_of_encode (dir := []) (fun m => by cases m <;> rfl) fun _ => rfl, fun _ => rfl, fun _ => rfl,
    fun src m s => ⟨?bita, ?bitb, ?tst, ?tsta, ?tstb⟩⟩
  case bita => exact andOp_bitwise.exec_accTest (i := .bita src) .a rfl
  case bitb => exact andOp_bitwise.exec_accTest (i := .bitb src) .b rfl
  case tst =>
    exact ⟨_, rfl, .of_nzvc8 (c := false) rfl, flagC_tstFlags _ _, exec_keepsBut (i := .tst m) rfl, .nil rfl rfl rfl⟩
  case tsta =>
    exact ⟨_, rfl, .of_nzvc8 (c := false) rfl, flagC_tstFlags _ _, exec_keepsBut (i := .tsta) rfl, .nil rfl rfl rfl⟩
  case tstb =>
    exact ⟨_, rfl, .of_nzvc8 (c := false) rfl, flagC_tstFlags _ _, exec_keepsBut (i := .tstb) rfl, .nil rfl rfl rfl⟩

/-! ## Bits of a byte in memory -/

/-- The three forms of BSET or BCLR, given the bytes of each operand: the mask follows them (30_encoding.md R126). -/
theorem maskForms_of_encode {dir ext indx indy : List Byte} {f : MemBit → Byte → Instr}
    (hencode : ∀ m mm, encode (f m mm) = memBytes dir ext indx indy m.toMem ++ [mm])
    (hcore : ∀ m mm, (f m mm).core = f m mm) : MaskForms dir indx indy f := by
  have hdecodes (m : MemBit) (mm : Byte) : Decodes (memBytes dir ext indx indy m.toMem ++ [mm]) (f m mm) :=
    decodes_of_encode_eq (hencode m mm) (wellFormed_iff.2 (hcore m mm))
  refine ⟨fun dd mm => ?_, fun ff mm => ?_, fun ff mm => ?_⟩
  · simpa [memBytes, MemBit.toMem] using hdecodes (.dir dd) mm
  · simpa [memBytes, MemBit.toMem] using hdecodes (.indx ff) mm
  · simpa [memBytes, MemBit.toMem] using hdecodes (.indy ff) mm

/-- Settles O31: the byte read is masked, written back at its address, and gives the flags. -/
theorem bitSetAndClear : Obligations.BitSetAndClear := by
  unfold Obligations.BitSetAndClear
  refine ⟨maskForms_of_encode (ext := []) (fun m _ => by cases m <;> rfl) fun _ _ => rfl,
    maskForms_of_encode (ext := []) (fun m _ => by cases m <;> rfl) fun _ _ => rfl, fun m mm s hwf => ⟨?bset, ?bclr⟩⟩
  case bset =>
    exact ⟨_, _, rfl, fun i _ => bit_bsetOp mm s.ccr _ i, memUnary_wrote (bsetOp mm) hwf m.toMem,
      .of_ccr (ccr_memUnary (bsetOp mm) m.toMem s), exec_keepsBut (i := .bset m mm) rfl⟩
  case bclr =>
    exact ⟨_, _, rfl, fun _ hi => bit_bclrOp mm s.ccr _ hi, memUnary_wrote (bclrOp mm) hwf m.toMem,
      .of_ccr (ccr_memUnary (bclrOp mm) m.toMem s), exec_keepsBut (i := .bclr m mm) rfl⟩

/-! ## Complements and negations -/

theorem flagC_of_nzvc8 {r ccr : Byte} {v c : Bool} {t : State} (h : t.ccr = nzvc8 ccr r v c) : flagC t.ccr = c :=
  h ▸ flagC_nzvc8 ccr r v c

theorem flagV_of_nzvc8 {r ccr : Byte} {v c : Bool} {t : State} (h : t.ccr = nzvc8 ccr r v c) : flagV t.ccr = v :=
  h ▸ flagV_nzvc8 ccr r v c

theorem Subtracted8.of_negOp {ccr m : Byte} {t : State} (h : t.ccr = (negOp ccr m).2) :
    Subtracted8 0 m false (negOp ccr m).1 t := by
  rw [negOp_eq_subOp] at h ⊢
  exact .of_ccr h

/-- Settles O23: the complement with C set, and the difference from 0 with its flags. -/
theorem complementsAndNegations : Obligations.ComplementsAndNegations := by
  unfold Obligations.ComplementsAndNegations
  refine ⟨noDirForms_of_encode (dir := []) (fun m => by cases m <;> rfl) fun _ => rfl, fun _ => rfl, fun _ => rfl,
    noDirForms_of_encode (dir := []) (fun m => by cases m <;> rfl) fun _ => rfl, fun _ => rfl, fun _ => rfl,
    fun m s hwf => ⟨?com, ?coma, ?comb, ?neg, ?nega, ?negb⟩⟩
  case com =>
    have hccr := ccr_memUnary comOp m.toMem s
    exact ⟨_, _, rfl, comOp_toNat s.ccr _, memUnary_wrote comOp hwf m.toMem, .of_nzvc8 (c := true) hccr,
      flagC_of_nzvc8 hccr, exec_keepsBut (i := .com m) rfl⟩
  case coma =>
    exact ⟨_, rfl, comOp_toNat s.ccr s.a, .of_nzvc8 (c := true) rfl, flagC_of_nzvc8 rfl,
      exec_keepsBut (i := .coma) rfl, accUnary_wrote comOp .a s⟩
  case comb =>
    exact ⟨_, rfl, comOp_toNat s.ccr s.b, .of_nzvc8 (c := true) rfl, flagC_of_nzvc8 rfl,
      exec_keepsBut (i := .comb) rfl, accUnary_wrote comOp .b s⟩
  case neg =>
    have hccr := ccr_memUnary negOp m.toMem s
    exact ⟨_, _, rfl, .of_negOp hccr, flagV_of_nzvc8 hccr, flagC_of_nzvc8 hccr, memUnary_wrote negOp hwf m.toMem,
      exec_keepsBut (i := .neg m) rfl⟩
  case nega =>
    exact ⟨_, rfl, .of_negOp rfl, flagV_of_nzvc8 rfl, flagC_of_nzvc8 rfl, exec_keepsBut (i := .nega) rfl,
      accUnary_wrote negOp .a s⟩
  case negb =>
    exact ⟨_, rfl, .of_negOp rfl, flagV_of_nzvc8 rfl, flagC_of_nzvc8 rfl, exec_keepsBut (i := .negb) rfl,
      accUnary_wrote negOp .b s⟩

end Sys2Proof.Vocabulary

/-! Shifts and rotates: the bits of the result, the bit that enters, the bit that leaves into C
(43_shift_rotate.md R369 to R388). -/

namespace Sys2Proof.Vocabulary

open Sys2Proof.Machine

/-! ## An operation that moves a byte one place -/

/-- `op` moves its operand one place, left or right as `moved` says, and `new` is the bit that enters
(43_shift_rotate.md R369). -/
def MovesBy (moved : Byte → Bool → Byte → State → Prop) (new : Byte → Byte → Bool)
    (op : Byte → Byte → Byte × Byte) : Prop :=
  ∀ ccr m t, t.ccr = (op ccr m).2 → moved m (new ccr m) (op ccr m).1 t

theorem aslOp_movesBy : MovesBy MovedLeft8 (fun _ _ => false) aslOp :=
  fun _ m _ => MovedLeft8.of_ccr (shiftLeft_bits m)

theorem rolOp_movesBy : MovesBy MovedLeft8 (fun ccr _ => flagC ccr) rolOp :=
  fun ccr m _ => MovedLeft8.of_ccr (rotateLeft_bits m (flagC ccr))

theorem asrOp_movesBy : MovesBy MovedRight8 (fun _ m => bit m 7) asrOp :=
  fun _ m _ => MovedRight8.of_ccr (shiftRightArith_bits m)

theorem lsrOp_movesBy : MovesBy MovedRight8 (fun _ _ => false) lsrOp :=
  fun _ m _ => MovedRight8.of_ccr (shiftRight_bits m)

theorem rorOp_movesBy : MovesBy MovedRight8 (fun ccr _ => flagC ccr) rorOp :=
  fun ccr m _ => MovedRight8.of_ccr (rotateRight_bits m (flagC ccr))

section
variable {moved : Byte → Bool → Byte → State → Prop} {new : Byte → Byte → Bool}
  {op : Byte → Byte → Byte × Byte} {i : Instr} {s : State}

/-- The byte moved is an accumulator. -/
theorem MovesBy.exec_accUnary (h : MovesBy moved new op) (k : Acc) (hexec : exec i s = .next (accUnary op k s)) :
    ∃ t, exec i s = .next t ∧ moved (getAcc k s) (new s.ccr (getAcc k s)) (getAcc k t) t ∧
      KeepsBut (writtenParts i) s t ∧ Wrote [] s t := by
  refine ⟨_, hexec, ?moved, exec_keepsBut hexec, accUnary_wrote op k s⟩
  rw [getAcc_accUnary]
  exact h _ _ _ (ccr_accUnary op k s)

/-- The byte moved is in memory, read and written back at its address (20_memory.md R76). -/
theorem MovesBy.exec_memUnary (h : MovesBy moved new op) (hwf : s.mem.wf = true) (m : Mem)
    (hexec : exec i s = .next (memUnary op m s)) :
    ∃ t r, exec i s = .next t ∧
      moved (readByte (effAddr m s) s).1 (new s.ccr (readByte (effAddr m s) s).1) r t ∧
      Wrote [(effAddr m s, r)] (readByte (effAddr m s) s).2 t ∧ KeepsBut (writtenParts i) s t :=
  ⟨_, _, hexec, h _ _ _ (ccr_memUnary op m s), memUnary_wrote op hwf m, exec_keepsBut hexec⟩

end

/-! ## D moved one place -/

theorem asl16Op_moved {ccr : Byte} {m : Word} {t : State} (hd : t.d = (asl16Op ccr m).1)
    (hccr : t.ccr = (asl16Op ccr m).2) : MovedLeft16 m t.d t := by
  rw [hd]
  exact MovedLeft16.of_ccr (shiftLeft16_bits m) hccr

theorem lsr16Op_moved {ccr : Byte} {m : Word} {t : State} (hd : t.d = (lsr16Op ccr m).1)
    (hccr : t.ccr = (lsr16Op ccr m).2) : MovedRight16 m t.d t := by
  rw [hd]
  exact MovedRight16.of_ccr (shiftRight16_bits m) hccr

/-! ## The second spellings (43_shift_rotate.md R377, R378) -/

theorem exec_lsl (m : MemNoDir) (s : State) : exec (.lsl m) s = exec (.asl m) s := rfl

theorem exec_lsla (s : State) : exec .lsla s = exec .asla s := rfl

theorem exec_lslb (s : State) : exec .lslb s = exec .aslb s := rfl

theorem exec_lsld (s : State) : exec .lsld s = exec .asld s := rfl

/-! ## The obligations -/

/-- Settles O33: ASL lets in 0 and ROL the old C, and each LSL spelling has the bytes and the meaning of its ASL. -/
theorem leftShifts : Obligations.LeftShifts := by
  unfold Obligations.LeftShifts
  refine ⟨noDirForms_of_encode (dir := []) (fun m => by cases m <;> rfl) fun _ => rfl, fun _ => rfl, fun _ => rfl,
    fun _ => rfl, fun _ => rfl, rfl, rfl, rfl,
    noDirForms_of_encode (dir := []) (fun m => by cases m <;> rfl) fun _ => rfl, fun _ => rfl, fun _ => rfl,
    fun m s hwf => ⟨?asl, ?asla, ?aslb, ?asld, ?rol, ?rola, ?rolb⟩⟩
  case asl =>
    obtain ⟨t, r, hexec, hrest⟩ := aslOp_movesBy.exec_memUnary (i := .asl m) hwf m.toMem rfl
    exact ⟨t, r, hexec, (exec_lsl m s).trans hexec, hrest⟩
  case asla =>
    obtain ⟨t, hexec, hrest⟩ := aslOp_movesBy.exec_accUnary (i := .asla) (s := s) .a rfl
    exact ⟨t, hexec, (exec_lsla s).trans hexec, hrest⟩
  case aslb =>
    obtain ⟨t, hexec, hrest⟩ := aslOp_movesBy.exec_accUnary (i := .aslb) (s := s) .b rfl
    exact ⟨t, hexec, (exec_lslb s).trans hexec, hrest⟩
  case asld =>
    exact ⟨_, rfl, exec_lsld s, asl16Op_moved (cat_hi_lo _) rfl, exec_keepsBut (i := .asld) rfl, .nil rfl rfl rfl⟩
  case rol => exact rolOp_movesBy.exec_memUnary (i := .rol m) hwf m.toMem rfl
  case rola => exact rolOp_movesBy.exec_accUnary (i := .rola) .a rfl
  case rolb => exact rolOp_movesBy.exec_accUnary (i := .rolb) .b rfl

/-- Settles O34: ASR lets in the old top bit, LSR a 0 and ROR the old C. -/
theorem rightShifts : Obligations.RightShifts := by
  unfold Obligations.RightShifts
  refine ⟨noDirForms_of_encode (dir := []) (fun m => by cases m <;> rfl) fun _ => rfl, fun _ => rfl, fun _ => rfl,
    noDirForms_of_encode (dir := []) (fun m => by cases m <;> rfl) fun _ => rfl, fun _ => rfl, fun _ => rfl,
    fun _ => rfl,
    noDirForms_of_encode (dir := []) (fun m => by cases m <;> rfl) fun _ => rfl, fun _ => rfl, fun _ => rfl,
    fun m s hwf => ⟨?asr, ?asra, ?asrb, ?lsr, ?lsra, ?lsrb, ?lsrd, ?ror, ?rora, ?rorb⟩⟩
  case asr => exact asrOp_movesBy.exec_memUnary (i := .asr m) hwf m.toMem rfl
  case asra => exact asrOp_movesBy.exec_accUnary (i := .asra) .a rfl
  case asrb => exact asrOp_movesBy.exec_accUnary (i := .asrb) .b rfl
  case lsr => exact lsrOp_movesBy.exec_memUnary (i := .lsr m) hwf m.toMem rfl
  case lsra => exact lsrOp_movesBy.exec_accUnary (i := .lsra) .a rfl
  case lsrb => exact lsrOp_movesBy.exec_accUnary (i := .lsrb) .b rfl
  case lsrd => exact ⟨_, rfl, lsr16Op_moved (cat_hi_lo _) rfl, exec_keepsBut (i := .lsrd) rfl, .nil rfl rfl rfl⟩
  case ror => exact rorOp_movesBy.exec_memUnary (i := .ror m) hwf m.toMem rfl
  case rora => exact rorOp_movesBy.exec_accUnary (i := .rora) .a rfl
  case rorb => exact rorOp_movesBy.exec_accUnary (i := .rorb) .b rfl

end Sys2Proof.Vocabulary

/-! Branches, jumps and calls: when PC moves and where to, what is stacked, what is kept (44_branch_jump.md R410 to
R444). -/

namespace Sys2Proof.Vocabulary

open Sys2Proof.Machine

section
variable {i : Instr} {s : State} {rr : Byte}

/-! ## The branches on flags -/

/-- A branch whose test is the rule's condition (44_branch_jump.md R410). -/
theorem exec_branchesIf {test cond : Bool} (hexec : exec i s = .next (branchIf test rr s)) (htest : test = cond) :
    ∃ t, exec i s = .next t ∧ BranchesIf cond rr s t :=
  ⟨_, hexec, htest ▸ branchIf_branches test rr s⟩

/-- A branch on one flag set. -/
theorem exec_branchesIf_set {flag : Bool} (hexec : exec i s = .next (branchIf flag rr s)) :
    ∃ t, exec i s = .next t ∧ BranchesIf (flag == true) rr s t := exec_branchesIf hexec (beq_true flag).symm

/-- A branch on one flag clear. -/
theorem exec_branchesIf_clear {flag : Bool} (hexec : exec i s = .next (branchIf (!flag) rr s)) :
    ∃ t, exec i s = .next t ∧ BranchesIf (flag == false) rr s t := exec_branchesIf hexec (beq_false flag).symm

/-- N xor V clear: N and V are the same (44_branch_jump.md R415). -/
theorem not_xor_eq_beq (n v : Bool) : (!(n ^^ v)) = (n == v) := Bool.not_not (n == v)

/-! ## The branches on bits of a byte -/

/-- A mask selects no bit of a byte that is 1 exactly when the AND of the two is 0. -/
theorem and_eq_zero_iff_bits {v mm : Byte} :
    v &&& mm = 0 ↔ ∀ j, j < 8 → bit mm j = true → bit v j = false := by
  have hzero (j : Nat) : bit 0 j = false := BitVec.getLsbD_zero
  constructor
  · intro h j _ hmm
    have hbit := bit_and v mm j
    rwa [h, hzero, hmm, Bool.and_true, eq_comm] at hbit
  · intro h
    refine byte_ext_bits fun j hj => ?_
    rw [bit_and, hzero]
    cases hmm : bit mm j with
    | false => exact Bool.and_false _
    | true => rw [h j hj hmm, Bool.false_and]

theorem complement_and_eq_zero_iff_bits {v mm : Byte} :
    ~~~v &&& mm = 0 ↔ ∀ j, j < 8 → bit mm j = true → bit v j = true :=
  and_eq_zero_iff_bits.trans <| forall₂_congr fun j hj => by rw [bit_not v hj, Bool.not_eq_false']

/-- A branch taken when every bit of the byte at `a` that the mask selects is `want`, after the one read
(44_branch_jump.md R431, R432). -/
theorem exec_branches_on_bits {a : Word} {mm : Byte} {test : Prop} [Decidable test] (want : Bool)
    (hexec : exec i s = .next (branchIf (decide test) rr (readByte a s).2))
    (htest : test ↔ ∀ j, j < 8 → bit mm j = true → bit (readByte a s).1 j = want) :
    ∃ t, exec i s = .next t ∧ KeepsBut [.pc] s t ∧ Wrote [] (readByte a s).2 t ∧
      ((∀ j, j < 8 → bit mm j = true → bit (readByte a s).1 j = want) → IsTarget s.pc rr t.pc) ∧
      ((∃ j, j < 8 ∧ bit mm j = true ∧ bit (readByte a s).1 j = !want) → t.pc = s.pc) := by
  obtain ⟨hpc, hkeeps, hwrote⟩ := branchIf_branches (decide test) rr (readByte a s).2
  rw [readByte_pc] at hpc
  refine ⟨_, hexec, (readByte_keepsBut a s).trans hkeeps, hwrote, fun hall => ?taken, ?notTaken⟩
  case taken => rwa [if_pos (decide_eq_true (htest.2 hall))] at hpc
  case notTaken =>
    rintro ⟨j, hj, hmm, hbit⟩
    have hfails : ¬ test := fun h => Bool.not_ne_self want (hbit.symm.trans (htest.1 h j hj hmm))
    rwa [if_neg (mt of_decide_eq_true hfails)] at hpc

end

/-! ## The obligations -/

/-- Settles O35: each branch tests its flag, and BHS and BLO have the bytes and the test of BCC and BCS. -/
theorem flagBranches : Obligations.FlagBranches := by
  unfold Obligations.FlagBranches
  refine ⟨fun _ _ => rfl, fun _ _ => rfl, fun _ _ => rfl, fun _ _ => rfl, fun _ _ => rfl, fun _ _ => rfl,
    fun _ _ => rfl, fun _ _ => rfl, fun _ => ⟨rfl, rfl⟩,
    fun rr s => ⟨?bcc, ?bhs, ?bcs, ?blo, ?beq, ?bne, ?bmi, ?bpl, ?bvs, ?bvc⟩⟩
  case bcc | bhs | bne | bpl | bvc => exact exec_branchesIf_clear rfl
  case bcs | blo | beq | bmi | bvs => exact exec_branchesIf_set rfl

/-- Settles O36: the rules' conditions are the tests, with N xor V written as N = V or N ≠ V and a negated
disjunction as the conjunction of its negated parts. -/
theorem relationBranches : Obligations.RelationBranches := by
  unfold Obligations.RelationBranches
  refine ⟨fun _ _ => rfl, fun _ _ => rfl, fun _ _ => rfl, fun _ _ => rfl, fun _ _ => rfl, fun _ _ => rfl,
    fun _ _ => rfl, fun _ _ => rfl, fun _ => rfl,
    fun rr s => ⟨?bge, ?blt, ?bgt, ?ble, ?bhi, ?bls, ?bra, ?brn, ?nop⟩⟩
  case bge => exact exec_branchesIf rfl (not_xor_eq_beq _ _)
  case blt => exact exec_branchesIf rfl rfl
  case bgt => exact exec_branchesIf rfl (by rw [Bool.not_or, not_xor_eq_beq, beq_false])
  case ble => exact exec_branchesIf rfl (by rw [beq_true])
  case bhi => exact exec_branchesIf rfl (by rw [Bool.not_or, beq_false, beq_false])
  case bls => exact exec_branchesIf rfl (by rw [beq_true, beq_true])
  case bra => exact ⟨_, rfl, branchIf_branches true rr s⟩
  case brn => exact ⟨_, rfl, branchIf_branches false rr s⟩
  case nop => exact ⟨_, rfl, .refl s, .nil rfl rfl rfl⟩

/-- Settles O37: BRCLR tests the byte under the mask, BRSET its complement. -/
theorem bitBranches : Obligations.BitBranches := by
  unfold Obligations.BitBranches
  refine ⟨⟨fun _ _ _ _ => rfl, fun _ _ _ _ => rfl, fun _ _ _ _ => rfl⟩,
    ⟨fun _ _ _ _ => rfl, fun _ _ _ _ => rfl, fun _ _ _ _ => rfl⟩, fun m mm rr s => ⟨?brclr, ?brset⟩⟩
  case brclr => exact exec_branches_on_bits false rfl and_eq_zero_iff_bits
  case brset => exact exec_branches_on_bits true rfl complement_and_eq_zero_iff_bits

/-- Settles O38: JSR and BSR are calls, to the effective address and to the branch target; RTS pulls PC. -/
theorem jumpsAndCalls : Obligations.JumpsAndCalls := by
  unfold Obligations.JumpsAndCalls
  refine ⟨noDirForms_of_encode (dir := []) (fun m => by cases m <;> rfl) fun _ => rfl,
    memForms_of_encode (fun _ => rfl) fun _ => rfl, fun _ _ => rfl, fun _ => rfl,
    fun s => ⟨fun m => ?jmp, fun hwf m => ?jsr, fun hwf rr => ?bsr, ?rts⟩⟩
  case jmp => exact ⟨_, rfl, rfl, setPc_keepsBut _ s, .nil rfl rfl rfl⟩
  case jsr => exact ⟨_, rfl, call_called hwf (effAddr m s)⟩
  case bsr =>
    obtain ⟨hpc, hrest⟩ := call_called hwf (branchTarget rr s)
    exact ⟨_, rfl, hpc.symm ▸ branchTarget_isTarget rr s, hrest⟩
  case rts =>
    exact ⟨_, rfl, pull16_fst s, pull16_sp s, (pull16_keepsBut s).trans (setPc_keepsBut _ _),
      (pull16_wrote s).congr rfl rfl rfl⟩

end Sys2Proof.Vocabulary

/-! RTI, STOP, SWI and WAI, and the steps that leave the stopped and the waiting state or stay in it (45_system.md R460
to R466; 60_exceptions.md R506 to R515). -/

namespace Sys2Proof.Machine

open Sys2Proof.Vocabulary

/-! ## The instructions -/

/-- STOP writes the run state alone, and with S = 1 writes there what it finds (45_system.md R461). -/
theorem exec_stop_eq (s : State) :
    exec .stop s = .next (s.setRunState (if flagS s.ccr then s.runState else .stopped)) := by
  simp only [exec, execStop]
  cases flagS s.ccr <;> rfl

/-- RTI is the return from an exception (45_system.md R460). -/
theorem exec_rti_eq (s : State) : exec .rti s = .next (returnFromInterrupt s) := rfl

/-! ## The source served -/

section
variable {qs : List IntSource} {among : IntSource → Prop}

/-- Of some sources one is served, and it is first among them (60_exceptions.md R509, R514; log 19). -/
theorem exists_highest_of_mem_iff (hmem : ∀ r, r ∈ qs ↔ among r) (h : ∃ r, among r) :
    ∃ q, highest qs = some q ∧ First among q := by
  obtain rfl : (· ∈ qs) = among := funext fun r => propext (hmem r)
  obtain ⟨r, hr⟩ := h
  exact exists_highest (List.ne_nil_of_mem hr)

theorem highest_eq_none_of_mem_iff (hmem : ∀ r, r ∈ qs ↔ among r) (h : ∀ r, ¬ among r) : highest qs = none :=
  highest_eq_none.2 (List.eq_nil_iff_forall_not_mem.2 fun r hr => h r ((hmem r).1 hr))

end

section
variable {s u : State}

/-- The sources the stopped state serves when XIRQ is not requested (45_system.md R462 (d)). -/
theorem mem_unmasked_wakesStop (r : IntSource) :
    r ∈ (unmasked u).filter (·.wakesStop) ↔ Deliverable u r ∧ r.wakesStop = true := by
  rw [List.mem_filter, mem_unmasked]

/-- The source found is requested and is of that name (log 20). -/
theorem mem_requested_of_requestedXirq {q : IntSource} (h : requestedXirq u = some q) :
    q ∈ requested u ∧ q.name = .xirq := by
  unfold requestedXirq at h
  exact ⟨List.mem_of_find?_eq_some h, by simpa using List.find?_some h⟩

theorem exists_requestedXirq (h : ∃ r, r ∈ u.params.intSources ∧ r.name = .xirq ∧ .xirq ∈ u.pending) :
    ∃ q, requestedXirq u = some q ∧ q ∈ u.params.intSources ∧ q.name = .xirq := by
  obtain ⟨r, hsource, hname, hpending⟩ := h
  have hsome : (requestedXirq u).isSome := List.find?_isSome.2
    ⟨r, mem_requested.2 ⟨hsource, hname.symm ▸ hpending⟩, decide_eq_true hname⟩
  obtain ⟨q, hq⟩ := Option.isSome_iff_exists.1 hsome
  obtain ⟨hmem, hname⟩ := mem_requested_of_requestedXirq hq
  exact ⟨q, hq, (mem_requested.1 hmem).1, hname⟩

theorem requestedXirq_eq_none (h : ¬ ∃ r, r ∈ u.params.intSources ∧ r.name = .xirq ∧ .xirq ∈ u.pending) :
    requestedXirq u = none := by
  refine List.find?_eq_none.2 fun r hr hname => h ⟨r, ?_⟩
  obtain ⟨hsource, hpending⟩ := mem_requested.1 hr
  have hname : r.name = .xirq := of_decide_eq_true hname
  exact ⟨hsource, hname, hname ▸ hpending⟩

/-! ## The steps of the suspended states -/

/-- Under a map that is not refused a step is R20's order on the sampled state. -/
theorem step_eq_sampledStep (hsample : sample s = u) (hmap : mapRefused u.params = false) :
    step s = sampledStep exec u := by
  subst hsample
  exact step_of_map (sample_params s ▸ hmap)

theorem step_eq_stoppedStep (hsample : sample s = u) (hmap : mapRefused u.params = false)
    (hreset : u.resetReq = false) (hrun : u.runState = .stopped) : step s = .next (stoppedStep u) := by
  simp [step_eq_sampledStep hsample hmap, sampledStep, hreset, hrun]

theorem step_eq_waitingStep (hsample : sample s = u) (hmap : mapRefused u.params = false)
    (hreset : u.resetReq = false) (hrun : u.runState = .waiting) : step s = .next (waitingStep u) := by
  simp [step_eq_sampledStep hsample hmap, sampledStep, hreset, hrun]

/-- The full entry that leaves the stopped state (45_system.md R462 (b), (d)). -/
theorem enterInterrupt_source_entered (hwf : u.mem.wf = true) {q : IntSource} {xirq : Bool}
    (hxirq : isXirq q = xirq) : Entered q.vector xirq u.pc (u.setRunState .running)
      (enterInterrupt (.source q) u.pc (u.setRunState .running)) :=
  hxirq ▸ enterInterrupt_entered (s := u.setRunState .running) hwf (.source q) u.pc

/-- Stopped, XIRQ requested (45_system.md R462 (b), (c)). -/
theorem stoppedStep_of_requestedXirq {q : IntSource} (h : requestedXirq u = some q) :
    stoppedStep u = if flagX u.ccr then u.setRunState .running
      else enterInterrupt (.source q) u.pc (u.setRunState .running) := by simp [stoppedStep, h]

/-- Stopped, XIRQ not requested: a source that wakes STOP (45_system.md R462 (d)). -/
theorem stoppedStep_of_highest {q : IntSource} (hnone : requestedXirq u = none)
    (h : highest ((unmasked u).filter (·.wakesStop)) = some q) :
    stoppedStep u = enterInterrupt (.source q) u.pc (u.setRunState .running) := by simp [stoppedStep, hnone, h]

/-- Stopped, with nothing to serve (45_system.md R462 (e)). -/
theorem stoppedStep_of_none (hnone : requestedXirq u = none)
    (h : highest ((unmasked u).filter (·.wakesStop)) = none) : stoppedStep u = u := by
  simp [stoppedStep, hnone, h]

/-- Waiting, with a source to serve (45_system.md R466 (b)). -/
theorem waitingStep_of_highest {q : IntSource} (h : highest (unmasked u) = some q) :
    waitingStep u = takeVector (.source q) (u.setRunState .running) := by simp [waitingStep, h]

/-- Waiting, with nothing to serve (45_system.md R466 (c)). -/
theorem waitingStep_of_none (h : highest (unmasked u) = none) : waitingStep u = u := by simp [waitingStep, h]

end

end Sys2Proof.Machine

namespace Sys2Proof.System

open Sys2Proof.Machine Sys2Proof.Vocabulary

/-! ## The obligations -/

/-- Settles O40: an entry, through the vector of its cause, which is no XIRQ. -/
theorem softwareInterrupt : Obligations.SoftwareInterrupt := by
  unfold Obligations.SoftwareInterrupt
  exact ⟨fun _ => rfl, fun s hwf => ⟨_, rfl, enterInterrupt_entered hwf .swi s.pc⟩⟩

/-- Settles O41: the context stacked and the run state written; STOP writes the run state alone. -/
theorem waitAndStop : Obligations.WaitAndStop := by
  unfold Obligations.WaitAndStop
  refine ⟨fun _ => rfl, fun _ => rfl, fun s => ⟨fun hwf => ?wai, ?stop⟩⟩
  case wai =>
    obtain ⟨hsp, -, hwrote⟩ := pushContext_stacked hwf s.pc
    exact ⟨_, rfl, rfl, hsp, hwrote.congr (State.setRunState_mem ..) (State.setRunState_ioLog ..)
      (State.setRunState_draws ..), exec_keepsBut (i := .wai) rfl⟩
  case stop => exact ⟨_, exec_stop_eq s, rfl, setRunState_keepsBut _ s, .nil rfl rfl rfl⟩

/-- Settles O42: the nine bytes read are the CCR through X's rule and the registers, and nothing is stored. -/
theorem returnFromInterrupt : Obligations.ReturnFromInterrupt := by
  unfold Obligations.ReturnFromInterrupt
  refine ⟨fun _ => rfl, fun s => ?_⟩
  obtain ⟨u, c, b, a, xh, xl, yh, yl, ph, pl, hread, hreturn⟩ := returnFromInterrupt_eq s
  refine ⟨_, u, c, b, a, xh, xl, yh, yl, ph, pl, (exec_rti_eq s).trans (congrArg _ hreturn), hread,
    ?_, ?_, ?_, ?_, ?_, ?_, ?_, ?_, rfl, rfl, rfl, rfl, rfl, rfl, .nil rfl rfl rfl,
    hreturn ▸ returnFromInterrupt_keepsBut s⟩
  · exact flagS_loadCcr s.ccr c
  · exact flagX_loadCcr s.ccr c
  · exact flagH_loadCcr s.ccr c
  · exact flagI_loadCcr s.ccr c
  · exact flagN_loadCcr s.ccr c
  · exact flagZ_loadCcr s.ccr c
  · exact flagV_loadCcr s.ccr c
  · exact flagC_loadCcr s.ccr c

/-- Settles O50: by whether XIRQ is requested, then by X or by whether a source wakes STOP. A source served in the last
case is not XIRQ, for that would be requested. -/
theorem stoppedStep : Obligations.StoppedStep := by
  unfold Obligations.StoppedStep
  intro s u hsample hmap hreset hrun hwf
  rw [step_eq_stoppedStep hsample hmap hreset hrun]
  refine ⟨fun hxirq hX => ?enter, fun hxirq hX => ?resume,
    fun hxirq => ⟨fun hwakes => ?wake, fun hnone => ?remain⟩⟩
  case enter =>
    obtain ⟨q, hq, hsource, hname⟩ := exists_requestedXirq hxirq
    rw [stoppedStep_of_requestedXirq hq, hX]
    exact ⟨q, _, hsource, hname, rfl, enterInterrupt_source_entered hwf (decide_eq_true hname)⟩
  case resume =>
    obtain ⟨q, hq, -, -⟩ := exists_requestedXirq hxirq
    rw [stoppedStep_of_requestedXirq hq, if_pos hX]
  case wake =>
    obtain ⟨q, hq, hfirst⟩ := exists_highest_of_mem_iff mem_unmasked_wakesStop hwakes
    have ⟨⟨⟨hsource, hpending, _, _⟩, _⟩, _⟩ := hfirst
    have hname : q.name ≠ .xirq := fun hname => hxirq ⟨q, hsource, hname, hname ▸ hpending⟩
    rw [stoppedStep_of_highest (requestedXirq_eq_none hxirq) hq]
    exact ⟨q, _, hfirst, rfl, enterInterrupt_source_entered hwf (decide_eq_false hname)⟩
  case remain =>
    have hquiet : ∀ r, ¬ (Deliverable u r ∧ r.wakesStop = true) := fun r ⟨hr, hwakes⟩ =>
      Bool.false_ne_true ((hnone r hr).symm.trans hwakes)
    rw [stoppedStep_of_none (requestedXirq_eq_none hxirq)
      (highest_eq_none_of_mem_iff mem_unmasked_wakesStop hquiet)]

/-- Settles O51: by whether a source is deliverable; the context stands stacked already. -/
theorem waitingStep : Obligations.WaitingStep := by
  unfold Obligations.WaitingStep
  intro s u hsample hmap hreset hrun
  rw [step_eq_waitingStep hsample hmap hreset hrun]
  refine ⟨fun hdeliverable => ?wake, fun hquiet => ?remain⟩
  case wake =>
    obtain ⟨q, hq, hfirst⟩ := exists_highest_of_mem_iff (fun _ => mem_unmasked) hdeliverable
    rw [waitingStep_of_highest hq]
    exact ⟨q, _, hfirst, rfl, takeVector_taken (.source q) (u.setRunState .running)⟩
  case remain => rw [waitingStep_of_none (highest_eq_none_of_mem_iff (fun _ => mem_unmasked) hquiet)]

end Sys2Proof.System

/-! TEST, in test mode and outside it (46_absent_from_source.md R480), and IllegalOpcodePolicy (60_exceptions.md
R503). -/

namespace Sys2Proof.Machine

open Sys2Proof.Vocabulary

variable {s : State}

/-! ## An illegal opcode under each policy -/

theorem raiseIllegal_of_trap (h : s.params.illegalPolicy = .trap) (addr : Word) :
    raiseIllegal addr s = .next (enterInterrupt .illegalOpcode addr s) := by simp [raiseIllegal, h]

theorem raiseIllegal_of_fault (h : s.params.illegalPolicy = .fault) (addr : Word) :
    raiseIllegal addr s = .fault (.illegalOpcode addr) := by simp [raiseIllegal, h]

/-! ## TEST by mode -/

/-- TEST is refused in test mode (log 14). -/
theorem exec_test_of_testMode (h : s.params.testMode = true) : exec .test s = .refused .testExecuted := by
  simp [exec, execTest, h]

/-- Outside test mode TEST is an illegal opcode at its own address, one byte before PCnext. -/
theorem exec_test_of_not_testMode (h : s.params.testMode = false) :
    exec .test s = raiseIllegal (s.pc - 1) s := by simp [exec, execTest, h]

/-! ## The obligation -/

/-- Settles O43: by the mode, then by the policy; the trap is an entry through the illegal-opcode vector, which is no
XIRQ. -/
theorem testInstruction : Obligations.TestInstruction := by
  unfold Obligations.TestInstruction
  refine ⟨fun _ => rfl, fun s hwf => ⟨fun hmode hpolicy => ?trap, fun hmode hpolicy => ?fault,
    exec_test_of_testMode⟩⟩
  case trap =>
    rw [exec_test_of_not_testMode hmode, raiseIllegal_of_trap hpolicy]
    exact ⟨_, rfl, enterInterrupt_entered hwf .illegalOpcode (s.pc - 1)⟩
  case fault => rw [exec_test_of_not_testMode hmode, raiseIllegal_of_fault hpolicy]

end Sys2Proof.Machine

/-! The machine never stops (60_exceptions.md R504; 30_encoding.md R140; 20_memory.md R85): a step keeps the parameters,
and under parameters that stop nothing every step has a next state. -/

namespace Sys2Proof.Machine

open Sys2Proof.Vocabulary Sys2Proof.Safety

variable {s t : State}

/-! ## A step keeps the parameters (00_scope.md R7) -/

@[simp] theorem takeVector_params (c : Cause) (s : State) : (takeVector c s).params = s.params := by
  obtain ⟨-, -, -, ⟨-, -, -, -, hparams⟩, -⟩ := takeVector_taken c s
  exact hparams

@[simp] theorem enterInterrupt_params (c : Cause) (ret : Word) (s : State) :
    (enterInterrupt c ret s).params = s.params := by simp [enterInterrupt]

@[simp] theorem resetSequence_params (s : State) : (resetSequence s).params = s.params := by
  simp [resetSequence, drawUnknown]

@[simp] theorem stoppedStep_params (s : State) : (stoppedStep s).params = s.params := by
  rcases stoppedStep_cases s with heq | heq | ⟨q, -, heq⟩ <;> simp [heq]

@[simp] theorem waitingStep_params (s : State) : (waitingStep s).params = s.params := by
  rcases waitingStep_cases s with heq | ⟨q, -, heq⟩ <;> simp [heq]

theorem params_of_fetchInstr {f : Fetched} (h : fetchInstr s = f) : f.state.params = s.params := by
  obtain ⟨-, -, -, -, hparams⟩ := h ▸ fetchInstr_keepsBut s
  exact hparams

theorem exec_params {i : Instr} (h : exec i s = .next t) : t.params = s.params := by
  obtain ⟨-, -, -, -, hparams⟩ := exec_keepsBut h
  exact hparams

/-- No step writes the parameters, in any of the things it can do (log 6). -/
theorem step_params (h : step s = .next t) : t.params = s.params := by
  rw [← sample_params s]
  rcases (step_cases h rfl).2 with ⟨-, rfl⟩ | ⟨-, -, rfl⟩ | ⟨-, -, rfl⟩ | ⟨-, -, -, q, -, rfl⟩ |
    ⟨-, -, i, v, hfetch, hexec⟩ | ⟨-, -, v, hfetch, rfl⟩
  · exact resetSequence_params _
  · exact stoppedStep_params _
  · exact waitingStep_params _
  · exact enterInterrupt_params _ _ _
  · exact (exec_params hexec).trans (params_of_fetchInstr hfetch)
  · exact (enterInterrupt_params _ _ _).trans (params_of_fetchInstr hfetch)

/-! ## Under parameters that stop nothing every step has a next state -/

/-- The parameters under which nothing stops the machine: an illegal opcode traps (60_exceptions.md R503), TEST is one
(46_absent_from_source.md R480), and the map is not refused (20_memory.md R85). -/
def StopsNothing (p : Params) : Prop := p.illegalPolicy = .trap ∧ p.testMode = false ∧ mapRefused p = false

theorem exec_next (hpolicy : s.params.illegalPolicy = .trap) (hmode : s.params.testMode = false) (i : Instr) :
    ∃ t, exec i s = .next t := by
  rcases exec_eq_test_or_next i s with rfl | hnext
  · exact ⟨_, (exec_test_of_not_testMode hmode).trans (raiseIllegal_of_trap hpolicy _)⟩
  · exact hnext

/-- Whatever bytes stand at PC, they are an instruction with a next state or they trap. -/
theorem instructionStep_next (hpolicy : s.params.illegalPolicy = .trap) (hmode : s.params.testMode = false) :
    ∃ t, instructionStep exec s = .next t := by
  unfold instructionStep
  cases hfetch : fetchInstr s with
  | instr i v =>
    have hparams : v.params = s.params := params_of_fetchInstr hfetch
    exact exec_next (s := v.setInhibit false) (hparams ▸ hpolicy) (hparams ▸ hmode) i
  | illegal v =>
    have hparams : v.params = s.params := params_of_fetchInstr hfetch
    exact ⟨_, raiseIllegal_of_trap (s := v.setInhibit false) (hparams ▸ hpolicy) s.pc⟩

/-- Only the step that runs an instruction could stop (00_scope.md R20). -/
theorem sampledStep_next (hpolicy : s.params.illegalPolicy = .trap) (hmode : s.params.testMode = false) :
    ∃ t, sampledStep exec s = .next t := by
  unfold sampledStep
  split
  · exact ⟨_, rfl⟩
  · split
    · exact ⟨_, rfl⟩
    · exact ⟨_, rfl⟩
    · split
      · exact ⟨_, rfl⟩
      · exact instructionStep_next hpolicy hmode

theorem step_next (h : StopsNothing s.params) : ∃ t, step s = .next t := by
  obtain ⟨hpolicy, hmode, hmap⟩ := h
  rw [step_of_map hmap]
  exact sampledStep_next ((sample_params s).symm ▸ hpolicy) ((sample_params s).symm ▸ hmode)

/-! ## Runs -/

theorem run_succ_of_step (h : step s = .next t) (k : Nat) : core.run (k + 1) s = core.run k t := by
  have hstep : core.step s = .next t := h
  simp only [Host.Core.run, hstep]

/-- A property whose states all have a next state, and one with the property, is of states that run for ever. -/
theorem safe_of_step_closed {P : State → Prop} (hclosed : ∀ s, P s → ∃ t, step s = .next t ∧ P t) (h : P s) :
    Safe s := by
  intro k
  induction k generalizing s with
  | zero => exact ⟨s, rfl⟩
  | succ k ih =>
    obtain ⟨t, hstep, ht⟩ := hclosed s h
    obtain ⟨final, hrun⟩ := ih ht
    exact ⟨final, (run_succ_of_step hstep k).trans hrun⟩

/-- Settles O58: parameters that stop nothing give each step a next state, and every step keeps them. -/
theorem neverStops : Obligations.NeverStops := by
  unfold Obligations.NeverStops
  intro s hpolicy hmode hmap
  refine safe_of_step_closed (P := fun s => StopsNothing s.params) (fun s h => ?_) ⟨hpolicy, hmode, hmap⟩
  obtain ⟨t, hstep⟩ := step_next h
  exact ⟨t, hstep, (step_params hstep).symm ▸ h⟩

end Sys2Proof.Machine

/-! An exception entry and the RTI after it (60_exceptions.md R510, R512). -/

namespace Sys2Proof.Machine

open Sys2Proof.Vocabulary

variable {s t : State} {writes : List (Word × Byte)} {written later : List Part}

/-! ## Bytes written at different addresses in ram read back -/

/-- A byte written in ram stands there when no newer write is at its address. -/
theorem afterWrites_of_mem (hnodup : (writes.map Prod.fst).Nodup)
    (hram : ∀ write ∈ writes, kindAt s.params write.1 = .ram) {write : Word × Byte} (hmem : write ∈ writes) :
    afterWrites s writes write.1 = write.2 := by
  induction writes with
  | nil => cases hmem
  | cons newest older ih =>
    rw [List.map_cons, List.nodup_cons] at hnodup
    rcases List.mem_cons.1 hmem with rfl | holder
    · rw [afterWrites, if_pos ⟨rfl, hram write hmem⟩]
    · have hne : write.1 ≠ newest.1 := fun heq => hnodup.1 (heq ▸ List.mem_map_of_mem holder)
      rw [afterWrites, if_neg fun h => hne h.1]
      exact ih hnodup.2 (fun w hw => hram w (List.mem_cons_of_mem _ hw)) holder

/-- Addresses that follow one another, not as many as to come round, differ (20_memory.md R71). -/
theorem nodup_ascending {n : Nat} (hn : n ≤ 65536) (a : Word) :
    ((List.range n).map fun k => a + BitVec.ofNat 16 k).Nodup := by
  refine List.Nodup.map_on (fun j hj k hk heq => ?_) List.nodup_range
  rw [List.mem_range] at hj hk
  have hbits := congrArg BitVec.toNat ((BitVec.add_right_inj a).1 heq)
  simp only [BitVec.toNat_ofNat] at hbits
  omega

/-- Bytes written at ascending addresses in ram are what a run of reads there gives, and the reads change nothing. -/
theorem readRun_of_wrote {n : Nat} {a : Word} (hn : n ≤ 65536)
    (haddresses : writes.map Prod.fst = (List.range n).map fun k => a + BitVec.ofNat 16 k)
    (hram : ∀ k, k < n → kindAt s.params (a + BitVec.ofNat 16 k) = .ram) (hparams : t.params = s.params)
    (hbytes : ∀ w, t.byteAt w = afterWrites s writes w) : readRun n a t = (writes.map Prod.snd, t) := by
  have hplain : ∀ k, k < n → Plain t (a + BitVec.ofNat 16 k) := fun k hk => .inl (hparams ▸ hram k hk)
  have hramWrites : ∀ write ∈ writes, kindAt s.params write.1 = .ram := fun write hmem => by
    have haddress := List.mem_map_of_mem (f := Prod.fst) hmem
    rw [haddresses, List.mem_map] at haddress
    obtain ⟨k, hk, heq⟩ := haddress
    exact heq ▸ hram k (List.mem_range.1 hk)
  have hnodup : (writes.map Prod.fst).Nodup := haddresses ▸ nodup_ascending hn a
  refine Prod.ext ?_ (readRun_plain hplain)
  calc (readRun n a t).1
      = (List.range n).map (fun k => afterWrites s writes (a + BitVec.ofNat 16 k)) := by
        simp only [readRun_bytes_plain hplain, hbytes]
    _ = (writes.map Prod.fst).map (afterWrites s writes) := by rw [haddresses, List.map_map]; rfl
    _ = writes.map Prod.snd := by
        rw [List.map_map]
        exact List.map_congr_left fun write hmem => afterWrites_of_mem hnodup hramWrites hmem

/-! ## The stacked context -/

/-- The nine addresses of a context, from the SP it leaves upwards (60_exceptions.md R510). -/
theorem contextWrites_addresses (ret : Word) (s : State) :
    (contextWrites ret s).map Prod.fst = (List.range 9).map fun k => s.sp - 9 + 1 + BitVec.ofNat 16 k := by
  simp only [contextWrites, List.map_cons, List.map_nil, List.range_succ, List.range_zero, List.nil_append,
    List.cons_append, List.cons.injEq, and_true]
  refine ⟨?_, ?_, ?_, ?_, ?_, ?_, ?_, ?_, ?_⟩ <;> bv_omega

/-- The same addresses, counted from the SP the context was stacked at downwards. -/
theorem contextAddress_eq (sp : Word) {k : Nat} (hk : k < 9) :
    sp - 9 + 1 + BitVec.ofNat 16 k = sp - BitVec.ofNat 16 (8 - k) := by
  bv_omega

@[simp] theorem takeVector_sp (c : Cause) (s : State) : (takeVector c s).sp = s.sp := by
  unfold takeVector
  cases setsX c <;> simp

/-- The bytes an entry leaves in memory: the vector is read, and only the context is stored. -/
theorem enterInterrupt_byteAt (hwf : s.mem.wf = true) (c : Cause) (ret : Word) (w : Word) :
    (enterInterrupt c ret s).byteAt w = afterWrites s (contextWrites ret s) w := by
  obtain ⟨hbytes, -, -⟩ := Wrote.context hwf ret
  rw [← hbytes w, State.byteAt, State.byteAt, enterInterrupt, takeVector_mem]

/-- After an entry on a stack in ram, the nine bytes that RTI reads are the context stacked. -/
theorem readRun_enterInterrupt (hwf : s.mem.wf = true)
    (hram : ∀ k, k < 9 → kindAt s.params (s.sp - BitVec.ofNat 16 k) = .ram) (c : Cause) (ret : Word) :
    readRun 9 ((enterInterrupt c ret s).sp + 1) (enterInterrupt c ret s) =
      ([s.ccr, s.b, s.a, hi s.x, lo s.x, hi s.y, lo s.y, hi ret, lo ret], enterInterrupt c ret s) := by
  have hsp : (enterInterrupt c ret s).sp = s.sp - 9 := by simp [enterInterrupt]
  rw [hsp]
  exact readRun_of_wrote (by omega) (contextWrites_addresses ret s)
    (fun k hk => contextAddress_eq s.sp hk ▸ hram (8 - k) (by omega)) (enterInterrupt_params c ret s)
    (enterInterrupt_byteAt hwf c ret)

/-! ## The return -/

/-- On a stack in ram the return loads what the entry stacked, the CCR through X's rule. -/
theorem returnFromInterrupt_enterInterrupt (hwf : s.mem.wf = true)
    (hram : ∀ k, k < 9 → kindAt s.params (s.sp - BitVec.ofNat 16 k) = .ram) (c : Cause) (ret : Word) :
    returnFromInterrupt (enterInterrupt c ret s) =
      (((((((enterInterrupt c ret s).setCcr (loadCcr (enterInterrupt c ret s).ccr s.ccr)).setB s.b).setA s.a).setX
        s.x).setY s.y).setSp s.sp).setPc ret := by
  have hsp : (enterInterrupt c ret s).sp + 9 = s.sp := by simp [enterInterrupt]
  obtain ⟨u, cc, b, a, xh, xl, yh, yl, ph, pl, hread, hreturn⟩ := returnFromInterrupt_eq (enterInterrupt c ret s)
  rw [readRun_enterInterrupt hwf hram] at hread
  simp only [Prod.mk.injEq, List.cons.injEq, and_true] at hread
  obtain ⟨⟨rfl, rfl, rfl, rfl, rfl, rfl, rfl, rfl, rfl⟩, rfl⟩ := hread
  rw [hreturn, hsp, cat_hi_lo, cat_hi_lo, cat_hi_lo]

/-- A part written may be restored; then it is kept. -/
theorem keepsBut_of_restored (h : KeepsBut written s t)
    (hrestored : ∀ p ∈ written, p ∉ later → p.value t = p.value s) : KeepsBut later s t := by
  refine ⟨fun p hp => ?_, h.2⟩
  by_cases hmem : p ∈ written
  · exact hrestored p hmem hp
  · exact h.1 p hmem

/-- An entry writes SP, the masks and PC alone, and X it never clears. -/
theorem enterInterrupt_masks (hwf : s.mem.wf = true) (c : Cause) (ret : Word) :
    KeepsBut [.sp, .flagI, .flagX, .pc] s (enterInterrupt c ret s) ∧
      (flagX s.ccr = true → flagX (enterInterrupt c ret s).ccr = true) := by
  obtain ⟨p, ⟨-, hstacked, -⟩, -, hX, -, htaken, -⟩ := enterInterrupt_entered hwf c ret
  refine ⟨hstacked.trans htaken, fun hset => ?_⟩
  rw [hX, flagX_eq_of_keepsBut hstacked (by simp), hset, Bool.true_or]

/-- Settles O44: the nine bytes read are the context stacked. Of what the entry and the return write, I and X too are
restored: the stacked X is let back in, for the entry can only set X. -/
theorem entryThenReturn : Obligations.EntryThenReturn := by
  unfold Obligations.EntryThenReturn
  intro c ret s hwf hram
  obtain ⟨hentry, hX⟩ := enterInterrupt_masks hwf c ret
  have hboth := hentry.trans (returnFromInterrupt_keepsBut (enterInterrupt c ret s))
  rw [returnFromInterrupt_enterInterrupt hwf hram] at hboth
  refine ⟨_, (exec_rti_eq _).trans (congrArg _ (returnFromInterrupt_enterInterrupt hwf hram c ret)), rfl,
    keepsBut_of_restored hboth fun p hp hpc => ?_, enterInterrupt_byteAt hwf c ret⟩
  cases p with
  | flagX => simpa [Part.value] using congrArg Bool.toNat (Bool.and_eq_right_iff_imp.2 hX)
  | _ => simp [Part.value, writtenParts] at hp hpc ⊢

end Sys2Proof.Machine

/-! What a step does before an instruction or in place of one: the illegal-opcode path (60_exceptions.md R503, R511), an
interrupt (R509 to R514), the inhibit (70_reset_and_hazards.md R560) and the reset (R550 to R553). -/

namespace Sys2Proof.Machine

open Sys2Proof.Vocabulary

variable {s u : State}

/-! ## An entry does not look at PC: the return address is given (60_exceptions.md R510) -/

@[simp] theorem push8_setPc (v : Byte) (s : State) (pc : Word) : push8 v (s.setPc pc) = (push8 v s).setPc pc := by
  simp only [push8, State.setPc_sp, writeByte_setPc]
  rfl

@[simp] theorem push16_setPc (v : Word) (s : State) (pc : Word) :
    push16 v (s.setPc pc) = (push16 v s).setPc pc := by simp [push16]

@[simp] theorem pushContext_setPc (ret : Word) (s : State) (pc : Word) :
    pushContext ret (s.setPc pc) = (pushContext ret s).setPc pc := by simp [pushContext]

theorem setPc_setCcr (s : State) (pc : Word) (ccr : Byte) : (s.setPc pc).setCcr ccr = (s.setCcr ccr).setPc pc := rfl

/-- The vector replaces PC. -/
theorem takeVector_setPc (c : Cause) (s : State) (pc : Word) : takeVector c (s.setPc pc) = takeVector c s := by
  unfold takeVector
  cases setsX c <;> simp [setPc_setCcr]

theorem enterInterrupt_setPc (c : Cause) (ret : Word) (s : State) (pc : Word) :
    enterInterrupt c ret (s.setPc pc) = enterInterrupt c ret s := by
  rw [enterInterrupt, pushContext_setPc, takeVector_setPc, enterInterrupt]

/-! ## A run of byte reads changes neither memory, nor the CCR, nor the parameters (20_memory.md R72) -/

@[simp] theorem readRun_mem (n : Nat) (a : Word) (s : State) : (readRun n a s).2.mem = s.mem := by
  rw [readRun_state]
  rfl

@[simp] theorem readRun_ccr (n : Nat) (a : Word) (s : State) : (readRun n a s).2.ccr = s.ccr := by
  rw [readRun_state]
  rfl

@[simp] theorem readRun_params (n : Nat) (a : Word) (s : State) : (readRun n a s).2.params = s.params := by
  rw [readRun_state]
  rfl

/-! ## The illegal-opcode path -/

/-- The bytes of an undefined opcode at PC raise the illegal opcode with the address of the first of them, the inhibit
ended (60_exceptions.md R503; logs 27 and 29). -/
theorem instructionStep_of_illegal {ex : Instr → State → Host.Outcome State Fault Refusal} {n : Nat} {page : Page}
    {op : Byte} (hn : n = if page = .p1 then 1 else 2)
    (h : decode (readRun n s.pc s).1 = .rejected (.illegalOpcode page op)) :
    instructionStep ex s =
      raiseIllegal s.pc (((readRun n s.pc s).2.setInhibit false).setPc (s.pc + BitVec.ofNat 16 n)) := by
  simp only [instructionStep, fetchInstr_of_illegal hn h]
  rfl

/-- Settles O47: the step comes to the fetch, which finds the undefined opcode; then by the policy. -/
theorem stepAtUndefinedOpcode : Obligations.StepAtUndefinedOpcode := by
  unfold Obligations.StepAtUndefinedOpcode
  intro s u page op n hsample hmap hreset hrun hquiet hwf hn hdecode
  rw [step_eq_instructionStep hsample hmap hreset hrun hquiet, instructionStep_of_illegal hn hdecode]
  refine ⟨fun hpolicy => ?trap, fun hpolicy => raiseIllegal_of_fault (by simpa using hpolicy) u.pc⟩
  case trap =>
    have hentered := enterInterrupt_entered (s := (readRun n u.pc u).2.setInhibit false) (by simpa using hwf)
      .illegalOpcode u.pc
    have hvector : vectorOf .illegalOpcode ((readRun n u.pc u).2.setInhibit false).params = u.params.vecIllop := by
      simp [vectorOf]
    rw [raiseIllegal_of_trap (by simpa using hpolicy), enterInterrupt_setPc]
    exact ⟨_, rfl, hvector ▸ hentered⟩

/-! ## An interrupt between two instructions -/

/-- Not inhibited, the running state serves the highest unmasked source (00_scope.md R20). -/
theorem sampledStep_of_highest {ex : Instr → State → Host.Outcome State Fault Refusal} {q : IntSource}
    (hreset : s.resetReq = false) (hrun : s.runState = .running) (hinhibit : s.inhibit = false)
    (h : highest (unmasked s) = some q) : sampledStep ex s = .next (enterInterrupt (.source q) s.pc s) := by
  simp [sampledStep, hreset, hrun, interruptNow, hinhibit, h]

/-- Settles O52: of the deliverable sources one is served, by a whole entry. -/
theorem interruptStep : Obligations.InterruptStep := by
  unfold Obligations.InterruptStep
  intro s u hsample hmap hreset hrun hinhibit hwf hdeliverable
  obtain ⟨q, hq, hfirst⟩ := exists_highest_of_mem_iff (fun _ => mem_unmasked) hdeliverable
  exact ⟨q, _, hfirst, (step_eq_sampledStep hsample hmap).trans (sampledStep_of_highest hreset hrun hinhibit hq),
    enterInterrupt_entered hwf (.source q) u.pc⟩

/-! ## The inhibit -/

/-- Settles O53: the inhibit keeps every interrupt off, and is ended before the instruction, which sets it again or
not. -/
theorem inhibitOneInstruction : Obligations.InhibitOneInstruction := by
  unfold Obligations.InhibitOneInstruction
  intro s u n i hsample hmap hreset hrun hinhibit hdecode
  have hstep := stepRunsDecoded.1 s u n i hsample hmap hreset hrun (.inl hinhibit) hdecode
  refine ⟨hstep, fun t ht => ?_⟩
  rw [hstep] at ht
  have hinhibited := exec_inhibit ht
  simpa using hinhibited

/-! ## Reset -/

/-- The reset sequence up to its vector: the unset state drawn, S, X and I set, running, not inhibited
(70_reset_and_hazards.md R550, R551). -/
def resetRegisters (s : State) : State :=
  (((drawUnknown s).setCcr (putI (putX (putS (drawUnknown s).ccr true) true) true)).setRunState .running).setInhibit
    false

theorem resetRegisters_params (s : State) : (resetRegisters s).params = s.params := rfl

theorem resetRegisters_sameMemory (s : State) : SameMemory s (resetRegisters s) := ⟨fun _ => rfl, rfl⟩

/-- The end of the reset sequence is the read of its vector. -/
theorem resetSequence_eq (s : State) : resetSequence s =
    (readWord s.params.vecReset (resetRegisters s)).2.setPc (readWord s.params.vecReset (resetRegisters s)).1 := rfl

/-- Settles O49: reset comes before everything (00_scope.md R20); a vector in ram or rom is read as stored. -/
theorem resetStep : Obligations.ResetStep := by
  unfold Obligations.ResetStep
  intro s u hsample hmap hreset
  have hstep : step s = .next (resetSequence u) := by
    rw [step_eq_sampledStep hsample hmap, sampledStep, if_pos hreset]
  refine ⟨_, resetRegisters u, hstep, ?_, ?_, ?_, ?_, ?_, resetRegisters_sameMemory u, resetRegisters_params u, rfl,
    ⟨fun _ => rfl, rfl⟩, ?_, ?_, ?_, ?_, fun hhigh hlow => ?vector⟩
  case vector =>
    rw [resetSequence_eq, readWord_plain (s := resetRegisters u) hhigh hlow]
    rfl
  all_goals simp [resetSequence_eq, resetRegisters, drawUnknown]

end Sys2Proof.Machine
